-- ==== Sys2Proof/Word.lean ====
section
/-!
DEFINITION. The word types of the block (20_memory.md R46, 30_encoding.md R58): one 16-bit command word, whose
operand byte carries at most a pin level (1 bit) or a sensor status (8 bits). Bit 0 is the least significant bit (R12).
-/

namespace Sys2Proof

/-- One command word, presented to the block whole (R46, R58). -/
abbrev CommandWord := BitVec 16

/-- The raw pin level of SAMPLE (R60). -/
abbrev PinLevel := BitVec 1

/-- The sensor status bitfield of POLL (R9, R61). -/
abbrev StatusByte := BitVec 8

end Sys2Proof
end

