-- ==== Sys2Proof/Config.lean ====
section
/-!
DEFINITION. The configuration record Cfg (00_scope.md R7 to R11): the only thing that varies between implementations.
The spec leaves no result, flag or register undefined (93_implementation_defined.md), so there are no free values here.
-/

namespace Sys2Proof

/-- The parameters of R8 and R9. Natural numbers, so that the illegal values of `Cfg.legal` can be written down and
are refused (decision D26); a negative integer cannot be written (log entry 9). -/
structure Cfg where
  /-- N: width of the debounce shift register (R8). -/
  n : Nat
  /-- L: pressed samples of one long run (R8). -/
  l : Nat
  /-- M: completed long runs that make a long-press (R8). -/
  m : Nat
  /-- PRESS_LEVEL: the raw pin level that means "pressed" (R8). -/
  pressLevel : Nat
  /-- AWAKE_BIT: position of the awake flag in the status byte (R9). -/
  awakeBit : Nat
  /-- ERROR_BIT: position of the error flag in the status byte (R9). -/
  errorBit : Nat
  deriving DecidableEq, Repr

/-- The spec's example configuration (R11): N = 3, L = 4, M = 2, PRESS_LEVEL = 1, AWAKE_BIT = 6, ERROR_BIT = 7. -/
def Cfg.exampleValues : Cfg :=
  { n := 3, l := 4, m := 2, pressLevel := 1, awakeBit := 6, errorBit := 7 }

end Sys2Proof
end

