-- ==== Sys2Proof/Syntax.lean ====
section
/-!
DEFINITION. The block's operations as syntax: one constructor per row of spec/opcode_table.json (30_encoding.md R57).
RESET is an input and no command word (R57, R141): see `Machine.Input`.
-/

namespace Sys2Proof

/-- The three operations carried by command words. The operands have exactly the width the encoding gives them. -/
inductive Instr where
  /-- SAMPLE p: one tick of the button classifier (R60, R74). -/
  | sample (p : PinLevel)
  /-- POLL s: one read of the sensor status (R61, R88). -/
  | poll (s : StatusByte)
  /-- STEP: one run-to-completion cycle (R62, R94). -/
  | step
  deriving DecidableEq, Repr

end Sys2Proof
end

