-- ==== Sys2Proof/WellFormed.lean ====
section
/-!
DEFINITION. What is well formed: a configuration (00_scope.md R8, R9) and a command word (30_encoding.md R63, R66).
An `Instr` needs no check of its own: its operands have exactly the widths of R60 to R62, so every `Instr` is the
meaning of a legal word.
-/

namespace Sys2Proof

/-- The legal values of R8 and R9. A configuration that breaks one of them is refused with `badConfig` (R141). -/
def Cfg.legal (c : Cfg) : Bool :=
  decide (1 ≤ c.n) && decide (c.n < c.l) && decide (1 ≤ c.m) && decide (c.pressLevel ≤ 1) &&
    decide (c.awakeBit ≤ 7) && decide (c.errorBit ≤ 7) && decide (c.awakeBit ≠ c.errorBit)

/-- The match and mask of R66 for the three operations: a word is legal when it matches one of them. -/
def legalWord (w : CommandWord) : Bool :=
  (w &&& 0xFFFE) == 0x4000 || (w &&& 0xFF00) == 0x8000 || w == 0xC000

end Sys2Proof
end

