-- ==== Sys2Proof/Decode.lean ====
section
/-!
DEFINITION. Decoding and encoding of command words (30_encoding.md R58 to R66). Decoding is total on the 65536 words:
it answers an operation or a refusal by name.
-/

namespace Sys2Proof

/-- Why a command word is no operation (60_exceptions.md R123): the block sets `refused` and stays as it is; safe. -/
inductive DecodeRefusal where
  /-- A reserved selector or a reserved field that is not 0 (R63). -/
  | reservedEncoding
  deriving DecidableEq, Repr

/-- `op`, bits [15:14] (R58). -/
def opField (w : CommandWord) : BitVec 2 := w.extractLsb' 14 2

/-- `rsv`, bits [13:8] (R58). -/
def rsvField (w : CommandWord) : BitVec 6 := w.extractLsb' 8 6

/-- `opnd`, bits [7:0] (R58). -/
def opndField (w : CommandWord) : BitVec 8 := w.extractLsb' 0 8

/-- The operation a command word stands for, in the order of R66. -/
def decode (w : CommandWord) : Except DecodeRefusal Instr :=
  if rsvField w ≠ 0 then .error .reservedEncoding
  else if opField w = 0b00 then .error .reservedEncoding
  else if opField w = 0b01 then
    if (opndField w).extractLsb' 1 7 ≠ 0 then .error .reservedEncoding
    else .ok (.sample ((opndField w).extractLsb' 0 1))
  else if opField w = 0b10 then .ok (.poll (opndField w))
  else if opndField w ≠ 0 then .error .reservedEncoding
  else .ok .step

/-- The command word of an operation: `0x4000 | p` (R60), `0x8000 | s` (R61), `0xC000` (R62). -/
def encode : Instr → CommandWord
  | .sample p => 0x4000 ||| p.setWidth 16
  | .poll s => 0x8000 ||| s.setWidth 16
  | .step => 0xC000

/-- The bits `w` of a table row `nbits` wide as one command word, the bits above `nbits` being 0 (log entry 5). -/
def tableWord (nbits w : Nat) : CommandWord := BitVec.ofNat 16 (w % 2 ^ nbits)

/-- The operation the decoder reads from a word numbered as spec/opcode_table.json numbers it: every row is one
16-bit word, so the table's bit k is bit k of the command word. -/
def decodeTableWord (nbits w : Nat) : Option Instr :=
  match decode (tableWord nbits w) with
  | .ok i => some i
  | .error _ => none

end Sys2Proof
end

