-- ==== Sys2Proof/Machine/Codes.lean ====
section
/-!
DEFINITION. The codes of the block's observable state and outputs (10_state.md R22, R23, R24; 30_encoding.md R64, R72).
-/

namespace Sys2Proof.Machine

/-- `conf0` code 0: the sentinel, held only inside RESET (R22, R44). -/
def conf0Unset : BitVec 3 := 0
/-- `conf0` code 1: Idle (R22). -/
def conf0Idle : BitVec 3 := 1
/-- `conf0` code 2: Running, Headlights On (R22). -/
def conf0HeadlightsOn : BitVec 3 := 2
/-- `conf0` code 3: Running, Headlights Off (R22). -/
def conf0HeadlightsOff : BitVec 3 := 3
/-- `conf0` code 4: Error (R22). -/
def conf0Error : BitVec 3 := 4

/-- `conf1` code 0: Unset (R23). -/
def conf1Unset : BitVec 2 := 0
/-- `conf1` code 1: Brakes_On (R23). -/
def conf1BrakesOn : BitVec 2 := 1
/-- `conf1` code 2: Brakes_Off (R23). -/
def conf1BrakesOff : BitVec 2 := 2

/-- `hist` code 0: no Headlights sub-state has been active since reset (R24). -/
def histUnset : BitVec 2 := 0
/-- `hist` code 1: On (R24). -/
def histOn : BitVec 2 := 1
/-- `hist` code 2: Off (R24). -/
def histOff : BitVec 2 := 2

/-- The Headlights sub-states (R93). -/
inductive Headlights where
  | on
  | off
  deriving DecidableEq, Repr

/-- The Taillights sub-states (R93). -/
inductive Taillights where
  | brakesOn
  | brakesOff
  deriving DecidableEq, Repr

/-- The single-shot in-events (R16, R25). -/
inductive Event where
  | error
  | click
  | long
  deriving DecidableEq, Repr

/-- The calls of the Actuator Interface an output list is made of (R64). -/
inductive ActuatorCall where
  | startCar
  | stopCar
  | headlightsOn
  | headlightsOff
  | taillightsBright
  | taillightsDim
  /-- Named by the interface; no rule emits it (R64, R120). -/
  | taillightsOff
  | waitForInterrupt
  | handleError
  deriving DecidableEq, Repr

/-- The 4-bit code of each call (R64). -/
def ActuatorCall.code : ActuatorCall → BitVec 4
  | .startCar => 1
  | .stopCar => 2
  | .headlightsOn => 3
  | .headlightsOff => 4
  | .taillightsBright => 5
  | .taillightsDim => 6
  | .taillightsOff => 7
  | .waitForInterrupt => 8
  | .handleError => 9

/-- The `conf0` code of Running with a Headlights sub-state (R22). -/
def Headlights.conf0Code : Headlights → BitVec 3
  | .on => conf0HeadlightsOn
  | .off => conf0HeadlightsOff

/-- The `hist` code of a Headlights sub-state (R24). -/
def Headlights.histCode : Headlights → BitVec 2
  | .on => histOn
  | .off => histOff

/-- The call a Headlights sub-state makes on entry (R110). -/
def Headlights.entryCall : Headlights → ActuatorCall
  | .on => .headlightsOn
  | .off => .headlightsOff

/-- The `conf1` code of a Taillights sub-state (R23). -/
def Taillights.conf1Code : Taillights → BitVec 2
  | .brakesOn => conf1BrakesOn
  | .brakesOff => conf1BrakesOff

/-- The call a Taillights sub-state makes on entry (R112). -/
def Taillights.entryCall : Taillights → ActuatorCall
  | .brakesOn => .taillightsBright
  | .brakesOff => .taillightsDim

end Sys2Proof.Machine
end

