-- ==== Sys2Proof/Machine/State.lean ====
section
/-!
DEFINITION. The state of the block: the twelve registers of 10_state.md R21, the two outcome marks of R34, and three
fields of the model's own (the configuration, the presented operations, the output list). The block has no memory,
no program counter and no register file (R19, R20, R45).
-/

namespace Sys2Proof.Machine

/-- What the host can present to the block (30_encoding.md R57): a command word, or the RESET input. -/
inductive Input where
  | command (w : CommandWord)
  | reset
  deriving DecidableEq, Repr

/-- The state. The first field is a parameter (R7, R42), the last two are the block's ports. -/
structure State where
  /-- Cfg (R7), kept for the whole run (R145). Not a register: no operation writes it (log entry 1). -/
  cfg : Cfg
  /-- Register 0, the active state of region 0 (R22). -/
  conf0 : BitVec 3
  /-- Register 1, the active state of region 1 (R23). -/
  conf1 : BitVec 2
  /-- Register 2, the shallow-history slot (R24). -/
  hist : BitVec 2
  /-- Register 3, the error in-event (R25). -/
  evtError : Bool
  /-- Register 4, the click in-event (R25). -/
  evtClick : Bool
  /-- Register 5, the long-press in-event (R25). -/
  evtLong : Bool
  /-- Register 6, the continuous brakes-on input (R26). -/
  brakesOn : Bool
  /-- Register 7, the N-bit shift register, newest sample in bit 0 (R27; log entry 8). -/
  btnShift : Nat
  /-- Register 8, the debounced "is pressed" (R28). -/
  btnPressed : Bool
  /-- Register 9, pressed samples in the current long run (R29). -/
  btnRun : Nat
  /-- Register 10, completed long runs (R29). -/
  btnRuns : Nat
  /-- Register 11, the long-press latch (R31). -/
  btnLong : Bool
  /-- Set by a refusal, cleared by RESET only (R34, R129). -/
  refused : Bool
  /-- Set by a fault, cleared by RESET only (R34, R130). -/
  faulted : Bool
  /-- The operations the host has presented, next one first (R51; log entry 2). -/
  input : List Input
  /-- The output list the last operation yielded (R33; log entry 3). -/
  out : List ActuatorCall
  deriving DecidableEq, Repr

/-- Why an operation faults (R123). -/
inductive Fault where
  /-- Raised by every meaning when `conf0`, `conf1` or `hist` holds an illegal code (R44). The step records it in
  `faulted` (R130). Safe: no reachable state faults. -/
  | badStateCode
  deriving DecidableEq, Repr

/-- Why an operation is refused (R123). -/
inductive Refusal where
  /-- Raised only by an arm of `exec` whose instruction has no meaning yet. Safe. No arm raises it now. -/
  | notModelled (mnemonic : String)
  /-- Raised when the command word presented is reserved (R63). The step records it in `refused` (R129). Safe. -/
  | reservedEncoding
  /-- Raised by every meaning and by RESET when `cfg` breaks R8 or R9 (R141). The step records it in `refused`
  (R129). Safe. -/
  | badConfig
  deriving DecidableEq, Repr

/-- The state right after RESET under a configuration (R41), with nothing presented. -/
def State.resetWith (c : Cfg) : State :=
  { cfg := c
    conf0 := conf0Idle
    conf1 := conf1Unset
    hist := histUnset
    evtError := false
    evtClick := false
    evtLong := false
    brakesOn := false
    btnShift := 0
    btnPressed := false
    btnRun := 0
    btnRuns := 0
    btnLong := false
    refused := false
    faulted := false
    input := []
    out := [] }

/-- The machine right after reset: R41 under the example configuration of R11. DESIGN CHOICE (log entry 1), unsafe:
a statement about this one state is about that one configuration. -/
def State.reset : State := State.resetWith Cfg.exampleValues

end Sys2Proof.Machine
end

