-- ==== Sys2Proof/Machine/Flags.lean ====
section
/-!
DEFINITION. The flags of 10_state.md R38: raising an in-event, the end-of-cycle clear, the brakes-on level, and the
output `press_in_progress`. The block has no condition codes.
-/

namespace Sys2Proof.Machine

/-- `raise(e)`: writes the event flag 1 whatever it held (R13, R25). -/
def raiseEvent (e : Event) (s : State) : State :=
  match e with
  | .error => { s with evtError := true }
  | .click => { s with evtClick := true }
  | .long => { s with evtLong := true }

/-- The end-of-cycle clear of the three in-events; `brakes_on` is not cleared (R107). -/
def clearEvents (s : State) : State :=
  { s with evtError := false, evtClick := false, evtLong := false }

/-- POLL's overwrite of the brakes-on level from the awake flag (R90). -/
def writeBrakes (awake : Bool) (s : State) : State := { s with brakesOn := !awake }

/-- The output `press_in_progress = btn_pressed OR (btn_shift != 0)` (R32, R86). -/
def pressInProgress (s : State) : Bool := s.btnPressed || decide (s.btnShift ≠ 0)

/-- May the host suspend when it performs the call `c` in the state `now`? Only for a wait-for-interrupt request, and only
with no press in progress at that moment (R136). `c` is an entry of the list a STEP yielded; operations may have come
between that STEP and `now`, and their own lists play no part (R128). -/
def mayHonourWait (c : ActuatorCall) (now : State) : Bool :=
  decide (c = .waitForInterrupt) && !pressInProgress now

end Sys2Proof.Machine
end

