-- ==== Sys2Proof/Machine/Operands.lean ====
section
/-!
DEFINITION. What the operands mean: the pin level of SAMPLE (40_button_classifier.md R75) and the status bits of POLL
(30_encoding.md R61). STEP has no operand (R62).
-/

namespace Sys2Proof.Machine

/-- Does a raw pin level read "pressed"? It does when it equals PRESS_LEVEL (R75). -/
def pressedSample (c : Cfg) (p : PinLevel) : Bool := decide (p.toNat = c.pressLevel)

/-- The awake flag of a status byte (R61). -/
def awakeFlag (c : Cfg) (v : StatusByte) : Bool := v.getLsbD c.awakeBit

/-- The error flag of a status byte (R61). -/
def errorFlag (c : Cfg) (v : StatusByte) : Bool := v.getLsbD c.errorBit

/-- `{btn_shift[N-2:0], b}`: the register shifted by one sample, the oldest bit dropped (R76). -/
def shiftIn (c : Cfg) (shift : Nat) (b : Bool) : Nat := (2 * shift + b.toNat) % 2 ^ c.n

/-- `ones(N)`: N pressed samples (R13, R77). -/
def allPressed (c : Cfg) : Nat := 2 ^ c.n - 1

end Sys2Proof.Machine
end

