-- ==== Sys2Proof/Machine/Ops.lean ====
section
/-!
DEFINITION. The operations every meaning shares: the checks that come before it, the output list, the outcomes of
60_exceptions.md R129 and R130 and how the state is marked with them, and RESET (70_reset_and_hazards.md R141, R142).
The block has no trap (R131): refusal and fault are the only ways an operation is not performed, and RESET is the only
return from either (R34).
-/

namespace Sys2Proof.Machine

/-- Is an outcome mark set, so that only RESET is performed (R34)? -/
def State.marked (s : State) : Bool := s.refused || s.faulted

/-- Are the codes of `conf0`, `conf1` and `hist` legal (R44)? `conf0` = 0 is held only inside RESET. -/
def State.codesLegal (s : State) : Bool :=
  decide (1 ≤ s.conf0.toNat) && decide (s.conf0.toNat ≤ 4) && decide (s.conf1.toNat ≤ 2) && decide (s.hist.toNat ≤ 2)

/-- `out <- []`: the output list an operation starts with (R13, R33). -/
def startOutput (s : State) : State := { s with out := [] }

/-- `emit(c)`: appends a call to the operation's output list (R13). -/
def emit (c : ActuatorCall) (s : State) : State := { s with out := s.out ++ [c] }

/-- A refusal's effect on the state: registers unchanged, no output, `refused` set (R129). -/
def markRefused (s : State) : State := { s with refused := true, out := [] }

/-- A fault's effect on the state: registers unchanged, no output, `faulted` set (R130). -/
def markFaulted (s : State) : State := { s with faulted := true, out := [] }

/-- One operation with its effect: nothing is performed under a mark (R34), an illegal configuration is refused (R141),
an illegal code faults (R44); otherwise the effect is taken, from an empty output list. The order of the two stops is
the model's (log entry 6). -/
def operate (effect : State → State) (s : State) : Host.Outcome State Fault Refusal :=
  if s.marked then .next (startOutput s)
  else if !s.cfg.legal then .refused .badConfig
  else if !s.codesLegal then .fault .badStateCode
  else .next (effect (startOutput s))

/-- How an outcome shows in the block's state: a refusal or a fault of the spec sets its mark on the state `s` the
operation started from and the block goes on to the next input (R34, R129, R130; log entry 4). -/
def recordOutcome (s : State) (o : Host.Outcome State Fault Refusal) : Host.Outcome State Fault Refusal :=
  match o with
  | .next t => .next t
  | .fault .badStateCode => .next (markFaulted s)
  | .refused .reservedEncoding => .next (markRefused s)
  | .refused .badConfig => .next (markRefused s)
  | .refused r => .refused r

/-- `enter_idle()`: Idle has no entry action (R116). -/
def enterIdle (s : State) : State := { s with conf0 := conf0Idle }

/-- The assignments of R142, before the default entry: every register at its sentinel or 0, both marks 0. -/
def clearAll (s : State) : State :=
  { s with
    conf0 := conf0Unset, conf1 := conf1Unset, hist := histUnset
    evtError := false, evtClick := false, evtLong := false
    brakesOn := false
    btnShift := 0, btnPressed := false, btnRun := 0, btnRuns := 0, btnLong := false
    refused := false, faulted := false }

/-- RESET (R141, R142): performed at any time, under any mark and from any code (R128; log entry 7); a configuration
that breaks R8 or R9 is refused instead. -/
def resetBlock (s : State) : Host.Outcome State Fault Refusal :=
  if s.cfg.legal then .next (startOutput (enterIdle (clearAll s))) else .refused .badConfig

end Sys2Proof.Machine
end

