-- ==== Sys2Proof/Machine/ButtonClassifier.lean ====
section
/-!
DEFINITION. The button classifier's operation SAMPLE (40_button_classifier.md R73 to R82).
-/

namespace Sys2Proof.Machine

/-- The counters and the latch at 0, as at a press and at a release (R77, R80). -/
def clearCounters (s : State) : State := { s with btnRun := 0, btnRuns := 0, btnLong := false }

/-- Press recognised: no event is raised (R77). -/
def recognisePress (s : State) : State := clearCounters { s with btnPressed := true }

/-- Release recognised: a click unless the latch is set, then all counters and the latch are 0 (R80). -/
def recogniseRelease (s : State) : State :=
  let s := if s.btnLong then s else raiseEvent .click s
  clearCounters { s with btnPressed := false }

/-- One long run completed; the M-th one latches and raises long-press (R78, R79). -/
def completeRun (s : State) : State :=
  let s := { s with btnRun := 0, btnRuns := s.btnRuns + 1 }
  if s.btnRuns = s.cfg.m then raiseEvent .long { s with btnLong := true } else s

/-- One pressed sample counted in the current long run (R78). -/
def countPressed (s : State) : State :=
  if s.btnRun + 1 = s.cfg.l then completeRun s else { s with btnRun := s.btnRun + 1 }

/-- A not-pressed sample that completes no release breaks the current long run (R81). -/
def breakRun (s : State) : State := { s with btnRun := 0 }

/-- The classifier's tests on the register the new sample `b` has been shifted into, in the order of R74. -/
def classify (b : Bool) (s : State) : State :=
  if s.btnPressed then
    if s.btnShift = 0 then recogniseRelease s
    else if s.btnLong then s
    else if b then countPressed s
    else breakRun s
  else if s.btnShift = allPressed s.cfg then recognisePress s
  else s

/-- The effect of SAMPLE p (R74): shift (R76), then classify. -/
def sampleEffect (p : PinLevel) (s : State) : State :=
  let b := pressedSample s.cfg p
  classify b { s with btnShift := shiftIn s.cfg s.btnShift b }

/-- SAMPLE p (R74). -/
def execSample (p : PinLevel) (s : State) : Host.Outcome State Fault Refusal := operate (sampleEffect p) s

end Sys2Proof.Machine
end

