-- ==== Sys2Proof/Machine/MotionMonitor.lean ====
section
/-!
DEFINITION. The motion monitor's operation POLL (41_motion_monitor.md R87 to R92).
-/

namespace Sys2Proof.Machine

/-- The effect of POLL v (R88): the error flag raises the error event on every POLL that reads it set (R89), the awake
flag overwrites the brakes-on level (R90), each independently of the other (R91), with no filtering (R92). -/
def pollEffect (v : StatusByte) (s : State) : State :=
  let s := if errorFlag s.cfg v then raiseEvent .error s else s
  writeBrakes (awakeFlag s.cfg v) s

/-- POLL v (R88). -/
def execPoll (v : StatusByte) (s : State) : Host.Outcome State Fault Refusal := operate (pollEffect v) s

end Sys2Proof.Machine
end

