-- ==== Sys2Proof/Machine/StateMachine.lean ====
section
/-!
DEFINITION. The hierarchical state machine's operation STEP (42_state_machine.md R93 to R117): the entry and exit
sequences, the reactions of the two slots, and the run-to-completion cycle.
-/

namespace Sys2Proof.Machine

/-- `enter_headlight(x)` (R110). -/
def enterHeadlight (x : Headlights) (s : State) : State :=
  emit x.entryCall { s with conf0 := x.conf0Code, hist := x.histCode }

/-- `exit_headlight()`: saves the Headlights sub-state being left; emits nothing (R114). -/
def exitHeadlight (s : State) : State :=
  if s.conf0 = conf0HeadlightsOn then { s with hist := histOn }
  else if s.conf0 = conf0HeadlightsOff then { s with hist := histOff }
  else s

/-- `enter_headlights_region()`: the shallow-history entry, On when the slot is On or Unset (R109). -/
def enterHeadlightsRegion (s : State) : State :=
  if s.hist = histOff then enterHeadlight .off s else enterHeadlight .on s

/-- `enter_taillight(x)` (R112). -/
def enterTaillight (x : Taillights) (s : State) : State :=
  emit x.entryCall { s with conf1 := x.conf1Code }

/-- `exit_taillight()`: writes nothing and emits nothing (R115). -/
def exitTaillight (s : State) : State := s

/-- `enter_taillights_region()`: always Brakes_Off (R111). -/
def enterTaillightsRegion (s : State) : State := enterTaillight .brakesOff s

/-- `enter_running()` (R108). -/
def enterRunning (s : State) : State :=
  enterTaillightsRegion (enterHeadlightsRegion (emit .startCar s))

/-- `exit_running()`: the history saved, region 1 unset, then `stop_car` (R113). -/
def exitRunning (s : State) : State :=
  let s := exitTaillight (exitHeadlight s)
  emit .stopCar { s with conf1 := conf1Unset }

/-- `enter_error()` (R117). -/
def enterError (s : State) : State := emit .handleError { s with conf0 := conf0Error }

/-- `exit_error()`: writes nothing and emits nothing (R117). -/
def exitError (s : State) : State := s

/-- The reaction of Idle (R97). -/
def reactIdle (s : State) : State :=
  if s.evtClick then enterRunning s else emit .waitForInterrupt s

/-- The Headlights reaction to a click: On and Off toggle (R101, R102). -/
def toggleHeadlights (s : State) : State :=
  if s.conf0 = conf0HeadlightsOn then enterHeadlight .off (exitHeadlight s)
  else enterHeadlight .on (exitHeadlight s)

/-- The reactions of Running in priority order: long-press, error, then the sub-region (R98 to R102). -/
def reactRunning (s : State) : State :=
  if s.evtLong then enterIdle (exitRunning s)
  else if s.evtError then enterError (exitRunning s)
  else
    let s := emit .waitForInterrupt s
    if s.evtClick then toggleHeadlights s else s

/-- The reaction of Error: to Idle whatever the events hold (R103). -/
def reactError (s : State) : State := enterIdle (exitError s)

/-- Slot 0 of the cycle (R94, R95). A code outside R21 never gets here (R44). -/
def slotZero (s : State) : State :=
  if s.conf0 = conf0Idle then reactIdle s
  else if s.conf0 = conf0HeadlightsOn then reactRunning s
  else if s.conf0 = conf0HeadlightsOff then reactRunning s
  else if s.conf0 = conf0Error then reactError s
  else s

/-- Slot 1 of the cycle, on the configuration slot 0 left (R95, R104, R105, R106). -/
def slotOne (s : State) : State :=
  if s.conf1 = conf1BrakesOff then
    if s.brakesOn then enterTaillight .brakesOn (exitTaillight s) else s
  else if s.conf1 = conf1BrakesOn then
    if s.brakesOn then s else enterTaillight .brakesOff (exitTaillight s)
  else s

/-- The effect of STEP (R94): slot 0, then slot 1, then the end-of-cycle clear (R107). -/
def stepEffect (s : State) : State := clearEvents (slotOne (slotZero s))

/-- STEP (R94). -/
def execStep (s : State) : Host.Outcome State Fault Refusal := operate stepEffect s

end Sys2Proof.Machine
end

