-- ==== Sys2Proof/Machine/Dispatch.lean ====
section
/-!
DEFINITION. One arm per operation of the opcode table (30_encoding.md R57), each one call of its meaning.
-/

namespace Sys2Proof.Machine

def exec (i : Instr) (s : State) : Host.Outcome State Fault Refusal :=
  match i with
  | .sample p => Sys2Proof.Machine.execSample p s
  | .poll v => Sys2Proof.Machine.execPoll v s
  | .step => Sys2Proof.Machine.execStep s

end Sys2Proof.Machine
end

