-- ==== Sys2Proof/Machine/Present.lean ====
section
/-!
DEFINITION. What the block does with one input the host presents (30_encoding.md R57): RESET, or a command word that is
decoded and executed, with the outcome recorded in the state.
-/

namespace Sys2Proof.Machine

/-- One command word: not looked at under a mark (R34), refused if reserved (R63), else the operation it encodes. -/
def presentWord (w : CommandWord) (s : State) : Host.Outcome State Fault Refusal :=
  if s.marked then .next (startOutput s)
  else
    match decode w with
    | .ok i => exec i s
    | .error .reservedEncoding => .refused .reservedEncoding

/-- One input, with the reason if the block gives it no effect. -/
def perform (op : Input) (s : State) : Host.Outcome State Fault Refusal :=
  match op with
  | .reset => resetBlock s
  | .command w => presentWord w s

/-- The next input taken from the list and performed, the outcome recorded. With nothing presented nothing happens:
the block never stops and has no sleep state (R135, R137; log entry 2). -/
def takeInput (s : State) : Host.Outcome State Fault Refusal :=
  match s.input with
  | [] => .next s
  | op :: rest => recordOutcome { s with input := rest } (perform op { s with input := rest })

/-- `s` with one more command word presented first. -/
def presentFirst (w : CommandWord) (s : State) : State := { s with input := .command w :: s.input }

end Sys2Proof.Machine
end

