-- ==== Sys2Proof/Machine/Pseudo.lean ====
section
/-!
DEFINITION. The pseudo-operations of 30_encoding.md R68 to R70, as the inputs they expand to.
-/

namespace Sys2Proof.Machine

/-- The input that carries an operation. -/
def inputOf (i : Instr) : Input := .command (encode i)

/-- The pin level that reads "pressed" (R75). -/
def pressPin (c : Cfg) : PinLevel := BitVec.ofNat 1 c.pressLevel

/-- The pin level that reads "not pressed" (R69: 1 - PRESS_LEVEL). -/
def releasePin (c : Cfg) : PinLevel := BitVec.ofNat 1 (1 - c.pressLevel)

/-- `CYCLE v`: POLL then STEP, one pass of the host's main loop (R68, R146). -/
def cycleInputs (v : StatusByte) : List Input := [inputOf (.poll v), inputOf .step]

/-- `PRESS k` (R69). -/
def pressInputs (c : Cfg) (k : Nat) : List Input := List.replicate k (inputOf (.sample (pressPin c)))

/-- `RELEASE k` (R69). -/
def releaseInputs (c : Cfg) (k : Nat) : List Input := List.replicate k (inputOf (.sample (releasePin c)))

/-- `CLICK` (R69). -/
def clickInputs (c : Cfg) : List Input := pressInputs c c.n ++ releaseInputs c c.n

/-- `LONGPRESS` (R70). -/
def longPressInputs (c : Cfg) : List Input := pressInputs c (c.n + c.l * c.m) ++ releaseInputs c c.n

end Sys2Proof.Machine
end

