-- ==== Sys2Proof/Machine/Registers.lean ====
section
/-!
DEFINITION. The register table of 10_state.md R21 as an observation of the state: every register is readable by the
host and by claims (R39), none is addressed by an operation (R19).
-/

namespace Sys2Proof.Machine

/-- The twelve registers of R21. -/
inductive Reg where
  | conf0
  | conf1
  | hist
  | evtError
  | evtClick
  | evtLong
  | brakesOn
  | btnShift
  | btnPressed
  | btnRun
  | btnRuns
  | btnLong
  deriving DecidableEq, Repr

/-- The number R21 gives a register. -/
def Reg.number : Reg → Nat
  | .conf0 => 0
  | .conf1 => 1
  | .hist => 2
  | .evtError => 3
  | .evtClick => 4
  | .evtLong => 5
  | .brakesOn => 6
  | .btnShift => 7
  | .btnPressed => 8
  | .btnRun => 9
  | .btnRuns => 10
  | .btnLong => 11

/-- The value a register holds, unsigned (R12, R39). -/
def Reg.read (r : Reg) (s : State) : Nat :=
  match r with
  | .conf0 => s.conf0.toNat
  | .conf1 => s.conf1.toNat
  | .hist => s.hist.toNat
  | .evtError => s.evtError.toNat
  | .evtClick => s.evtClick.toNat
  | .evtLong => s.evtLong.toNat
  | .brakesOn => s.brakesOn.toNat
  | .btnShift => s.btnShift
  | .btnPressed => s.btnPressed.toNat
  | .btnRun => s.btnRun
  | .btnRuns => s.btnRuns
  | .btnLong => s.btnLong.toNat

/-- ceil(log2 k): the bits needed to hold 0..k-1 (R10). -/
def bitsBelow (k : Nat) : Nat :=
  if k ≤ 1 then 0 else (k - 1).log2 + 1

/-- The width of a register under a configuration (R10, R21). -/
def Reg.width (r : Reg) (c : Cfg) : Nat :=
  match r with
  | .conf0 => 3
  | .conf1 => 2
  | .hist => 2
  | .btnShift => c.n
  | .btnRun => bitsBelow c.l
  | .btnRuns => bitsBelow (c.m + 1)
  | .evtError | .evtClick | .evtLong | .brakesOn | .btnPressed | .btnLong => 1

/-- The legal values of a register (R21). -/
def Reg.legalValue (r : Reg) (c : Cfg) (v : Nat) : Bool :=
  match r with
  | .conf0 => decide (1 ≤ v) && decide (v ≤ 4)
  | .conf1 => decide (v ≤ 2)
  | .hist => decide (v ≤ 2)
  | .btnShift => decide (v < 2 ^ c.n)
  | .btnRun => decide (v < c.l)
  | .btnRuns => decide (v ≤ c.m)
  | .evtError | .evtClick | .evtLong | .brakesOn | .btnPressed | .btnLong => decide (v ≤ 1)

end Sys2Proof.Machine
end

