-- ==== Sys2Proof/Safety.lean ====
section
/-!
DEFINITION. The terms claims are stated in: when an operation is performed normally, the invariants of 10_state.md R35
to R37, what a run of SAMPLEs leaves and raises, and the derived tables of 42_state_machine.md R119 and R120 written
from the tables themselves (not from the meanings).
-/

namespace Sys2Proof.Machine

/-- The block performs the operations presented to it: no mark (R34), a legal configuration (R141), legal codes (R44).
Every operation then completes (R121). -/
abbrev Ready (s : State) : Prop := s.marked = false ∧ s.cfg.legal = true ∧ s.codesLegal = true

/-- `conf0` in {2, 3} (R22). -/
abbrev Running (s : State) : Prop := s.conf0 = 2 ∨ s.conf0 = 3

/-- The region invariant (R35). -/
abbrev RegionInv (s : State) : Prop := Running s ↔ (s.conf1 = 1 ∨ s.conf1 = 2)

/-- The history invariant (R36), the part about one state. -/
abbrev HistoryInv (s : State) : Prop := (s.conf0 = 2 → s.hist = 1) ∧ (s.conf0 = 3 → s.hist = 2)

/-- The button invariants (R37). -/
abbrev ButtonInv (s : State) : Prop :=
  (s.btnPressed = false → s.btnRun = 0 ∧ s.btnRuns = 0 ∧ s.btnLong = false) ∧
  (s.btnLong = true → s.btnPressed = true ∧ s.btnRuns = s.cfg.m) ∧
  (s.btnLong = false → s.btnRuns < s.cfg.m)

/-- The ranges of the three registers whose width depends on the configuration (R10, R21, R30). -/
abbrev RangeInv (s : State) : Prop :=
  s.btnShift < 2 ^ s.cfg.n ∧ s.btnRun < s.cfg.l ∧ s.btnRuns ≤ s.cfg.m

/-- What the shift register can hold while pressed and while released, and that a latched press counts no run
(follows from R77, R79, R80, R82). -/
abbrev DebounceInv (s : State) : Prop :=
  (s.btnPressed = true → s.btnShift ≠ 0) ∧
  (s.btnPressed = false → s.btnShift ≠ 2 ^ s.cfg.n - 1) ∧
  (s.btnLong = true → s.btnRun = 0)

/-- The whole invariant of the block. -/
abbrev BlockInv (s : State) : Prop :=
  s.cfg.legal = true ∧ s.codesLegal = true ∧ RegionInv s ∧ HistoryInv s ∧ ButtonInv s ∧ RangeInv s ∧ DebounceInv s

/-- The state an outcome goes on in, if it does. -/
def nextOf (o : Host.Outcome State Fault Refusal) : Option State :=
  match o with
  | .next t => some t
  | .fault _ => none
  | .refused _ => none

/-- The state a list of SAMPLEs leaves, if each completes. -/
def samplesFrom : List PinLevel → State → Option State
  | [], s => some s
  | p :: ps, s =>
    match exec (.sample p) s with
    | .next t => samplesFrom ps t
    | .fault _ => none
    | .refused _ => none

/-- The state a list of operations leaves, if each completes. -/
def operationsFrom : List Instr → State → Option State
  | [], s => some s
  | i :: is, s =>
    match exec i s with
    | .next t => operationsFrom is t
    | .fault _ => none
    | .refused _ => none

/-- The button events pending in a state. -/
def buttonEvents (s : State) : List Event :=
  (if s.evtClick then [.click] else []) ++ (if s.evtLong then [.long] else [])

/-- The button events a list of SAMPLEs raises, each one counted: the flags are cleared before every SAMPLE, so that
an event raised twice is seen twice. -/
def eventsRaised : List PinLevel → State → List Event
  | [], _ => []
  | p :: ps, s =>
    match exec (.sample p) (clearEvents s) with
    | .next t => buttonEvents t ++ eventsRaised ps t
    | .fault _ => []
    | .refused _ => []

/-- Column "next `conf0`" of the table of R119: `k` is `conf0`, `h` is `hist`. -/
def tableConf0 (k : Nat) (c l e : Bool) (h : Nat) : Nat :=
  match k, c, l, e with
  | 1, false, _, _ => 1
  | 1, true, _, _ => if h = 2 then 3 else 2
  | 2, _, true, _ => 1
  | 3, _, true, _ => 1
  | 2, _, false, true => 4
  | 3, _, false, true => 4
  | 2, false, false, false => 2
  | 2, true, false, false => 3
  | 3, false, false, false => 3
  | 3, true, false, false => 2
  | 4, _, _, _ => 1
  | k, _, _, _ => k

/-- Column "slot-0 output" of the table of R119. -/
def tableOut0 (k : Nat) (c l e : Bool) (h : Nat) : List ActuatorCall :=
  match k, c, l, e with
  | 1, false, _, _ => [.waitForInterrupt]
  | 1, true, _, _ => [.startCar, if h = 2 then .headlightsOff else .headlightsOn, .taillightsDim]
  | 2, _, true, _ => [.stopCar]
  | 3, _, true, _ => [.stopCar]
  | 2, _, false, true => [.stopCar, .handleError]
  | 3, _, false, true => [.stopCar, .handleError]
  | 2, false, false, false => [.waitForInterrupt]
  | 2, true, false, false => [.waitForInterrupt, .headlightsOff]
  | 3, false, false, false => [.waitForInterrupt]
  | 3, true, false, false => [.waitForInterrupt, .headlightsOn]
  | _, _, _, _ => []

/-- "`conf1` after slot 0" (R119): `k`, `k'` are `conf0` before and after slot 0. -/
def tableConf1 (k k' conf1 : Nat) : Nat :=
  if k = 1 ∧ (k' = 2 ∨ k' = 3) then 2
  else if (k = 2 ∨ k = 3) ∧ (k' = 1 ∨ k' = 4) then 0
  else conf1

/-- "`hist` after slot 0" (R119). -/
def tableHist (k k' hist : Nat) : Nat :=
  if k' = 2 then 1
  else if k' = 3 then 2
  else if k = 2 then 1
  else if k = 3 then 2
  else hist

/-- `conf1` after slot 1 (R120): `conf1` is the value slot 0 left. -/
def tableConf1After (conf1 : Nat) (brakes : Bool) : Nat :=
  match conf1, brakes with
  | 2, true => 1
  | 1, false => 2
  | k, _ => k

/-- What slot 1 appends to the output (R120). -/
def tableOut1 (conf1 : Nat) (brakes : Bool) : List ActuatorCall :=
  match conf1, brakes with
  | 2, true => [.taillightsBright]
  | 1, false => [.taillightsDim]
  | _, _ => []

/-- The possible outputs of a STEP, as R120 lists them. -/
def possibleOutputs : List (List ActuatorCall) :=
  [ [.waitForInterrupt],
    [.startCar, .headlightsOn, .taillightsDim],
    [.startCar, .headlightsOff, .taillightsDim],
    [.startCar, .headlightsOn, .taillightsDim, .taillightsBright],
    [.startCar, .headlightsOff, .taillightsDim, .taillightsBright],
    [.stopCar],
    [.stopCar, .handleError],
    [.waitForInterrupt, .taillightsBright],
    [.waitForInterrupt, .taillightsDim],
    [.waitForInterrupt, .headlightsOn],
    [.waitForInterrupt, .headlightsOn, .taillightsBright],
    [.waitForInterrupt, .headlightsOn, .taillightsDim],
    [.waitForInterrupt, .headlightsOff],
    [.waitForInterrupt, .headlightsOff, .taillightsBright],
    [.waitForInterrupt, .headlightsOff, .taillightsDim],
    [] ]

end Sys2Proof.Machine
end

