-- ==== Sys2Proof/Certificates/Slice0/Obligations.lean ====
section
/-!
DEFINITION. The statements about the block, for the provers. Each docstring names the rule of spec/ the statement
formalises. Where the rule is marked there as the spec's own decision D<k> or as derived from other rules, the statement
is 'derived' in OBLIGATIONS.json and the docstring says so.
-/

open Sys2Proof Sys2Proof.Machine

/-! ## Encoding -/

/-- Words written out bit by bit from 30_encoding.md R60 to R63 (the encoding is the spec's own, D2) decode to the
operation they stand for, or are refused. -/
def Obligations.WordsFromTheEncodingDecode : Prop :=
  decode 0b0100000000000000 = .ok (.sample 0) ∧
  decode 0b0100000000000001 = .ok (.sample 1) ∧
  decode 0b1000000000000000 = .ok (.poll 0x00) ∧
  decode 0b1000000011111111 = .ok (.poll 0xFF) ∧
  decode 0b1000000001000000 = .ok (.poll 0x40) ∧
  decode 0b1100000000000000 = .ok .step ∧
  decode 0b0100000000000010 = .error .reservedEncoding ∧
  decode 0b1100000000000001 = .error .reservedEncoding ∧
  decode 0b0000000000000000 = .error .reservedEncoding ∧
  decode 0b1011111101000000 = .error .reservedEncoding

/-- Decode and encode agree in both directions, for every operation and every word (R60 to R63, R66; decision D2). -/
def Obligations.DecodeAndEncodeAgree : Prop :=
  (∀ i : Instr, decode (encode i) = .ok i) ∧
  (∀ (w : CommandWord) (i : Instr), decode w = .ok i → encode i = w)

/-- Decoding is the match and mask of R66, operand bits included, the three patterns are disjoint, and every other word
is refused (decisions D2, D18). -/
def Obligations.DecodeIsMatchAndMask : Prop :=
  ∀ w : CommandWord,
    (∀ p, decode w = .ok (.sample p) ↔ (w &&& 0xFFFE = 0x4000 ∧ p.getLsbD 0 = w.getLsbD 0)) ∧
    (∀ v, decode w = .ok (.poll v) ↔ (w &&& 0xFF00 = 0x8000 ∧ v.toNat = w.toNat % 256)) ∧
    (decode w = .ok .step ↔ w = 0xC000) ∧
    (decode w = .error .reservedEncoding ↔
      ¬(w &&& 0xFFFE = 0x4000) ∧ ¬(w &&& 0xFF00 = 0x8000) ∧ ¬(w = 0xC000)) ∧
    ¬(w &&& 0xFFFE = 0x4000 ∧ w &&& 0xFF00 = 0x8000) ∧
    ¬(w &&& 0xFFFE = 0x4000 ∧ w = 0xC000) ∧
    ¬(w &&& 0xFF00 = 0x8000 ∧ w = 0xC000)

/-- Exactly 2 + 256 + 1 = 259 words are legal (R63; decision D18): a list of 259 different words holds just those
the decoder takes. -/
def Obligations.ExactlyLegalWordsDecode : Prop :=
  ∃ ws : List CommandWord, ws.Nodup ∧ ws.length = 259 ∧ ∀ w, (∃ i, decode w = .ok i) ↔ w ∈ ws

/-! ## The step and its outcomes -/

/-- A step runs the decoded instruction: when the first presented word decodes to `i` and no mark is set, the step is
`exec i` on the state with that word taken from the input list, a refusal or a fault of it being recorded as a mark
(R34, R51, R57; log entries 2 and 4). -/
def Obligations.StepRunsTheDecodedOperation : Prop :=
  ∀ (s : State) (w : CommandWord) (rest : List Input) (i : Instr),
    s.input = .command w :: rest → s.marked = false → decode w = .ok i →
    step s = recordOutcome { s with input := rest } (exec i { s with input := rest })

/-- Inputs are performed one at a time in the order presented, and a step always answers a next state: the block never
halts (R51, R139; the input list is the model's, log entry 2). With nothing presented nothing changes. -/
def Obligations.EveryStepTakesOneInput : Prop :=
  (∀ (s : State) (op : Input) (rest : List Input), s.input = op :: rest → ∃ t, step s = .next t ∧ t.input = rest) ∧
  (∀ s : State, s.input = [] → step s = .next s)

/-- A reserved word, told by the fields of R58 and R63, changes no register, yields no output and sets `refused`
(R63, R129; decision D18). -/
def Obligations.ReservedWordIsRefused : Prop :=
  ∀ (s : State) (w : CommandWord) (rest : List Input),
    s.input = .command w :: rest → s.marked = false →
    (w.toNat / 2 ^ 14 = 0 ∨ w.toNat / 2 ^ 8 % 2 ^ 6 ≠ 0 ∨
      (w.toNat / 2 ^ 14 = 1 ∧ w.toNat % 2 ^ 8 / 2 ≠ 0) ∨ (w.toNat / 2 ^ 14 = 3 ∧ w.toNat % 2 ^ 8 ≠ 0)) →
    perform (.command w) s = .refused .reservedEncoding ∧
    step s = .next { s with input := rest, refused := true, out := [] }

/-- Under either mark a command word changes nothing; only RESET is performed, and it clears both marks; no command
word clears a mark; both are 0 after reset (R34; decisions D18, D23). -/
def Obligations.MarkedBlockOnlyResets : Prop :=
  (∀ (s : State) (w : CommandWord) (rest : List Input), s.input = .command w :: rest → s.marked = true →
    step s = .next { s with input := rest, out := [] }) ∧
  (∀ (s : State) (rest : List Input), s.input = .reset :: rest → s.cfg.legal = true →
    ∃ t, step s = .next t ∧ t.refused = false ∧ t.faulted = false) ∧
  (∀ (s t : State) (w : CommandWord) (rest : List Input), s.input = .command w :: rest → step s = .next t →
    (s.refused = true → t.refused = true) ∧ (s.faulted = true → t.faulted = true)) ∧
  (∀ c : Cfg, (State.resetWith c).refused = false ∧ (State.resetWith c).faulted = false)

/-- An illegal code in `conf0`, `conf1` or `hist` makes every operation fault: registers unchanged, no output,
`faulted` set; and no step ever writes an illegal code (R44, R130; decision D23). -/
def Obligations.IllegalCodeFaults : Prop :=
  (∀ (s : State) (i : Instr), s.marked = false → s.cfg.legal = true →
    (s.conf0.toNat = 0 ∨ 5 ≤ s.conf0.toNat ∨ s.conf1.toNat = 3 ∨ s.hist.toNat = 3) →
    exec i s = .fault .badStateCode) ∧
  (∀ (s : State) (w : CommandWord) (rest : List Input) (i : Instr),
    s.input = .command w :: rest → s.marked = false → s.cfg.legal = true → s.codesLegal = false → decode w = .ok i →
    step s = .next { s with input := rest, faulted := true, out := [] }) ∧
  (∀ s t : State, s.codesLegal = true → step s = .next t → t.codesLegal = true)

/-- A configuration outside R8 and R9 is refused by every operation and by RESET: registers unchanged, no output,
`refused` set (R8, R9, R129, R141; decision D26; that `faulted` is kept by a refused RESET is log entry 7). -/
def Obligations.IllegalConfigIsRefused : Prop :=
  (∀ (s : State) (i : Instr), s.marked = false →
    (s.cfg.n = 0 ∨ s.cfg.l ≤ s.cfg.n ∨ s.cfg.m = 0 ∨ 1 < s.cfg.pressLevel ∨ 7 < s.cfg.awakeBit ∨
      7 < s.cfg.errorBit ∨ s.cfg.awakeBit = s.cfg.errorBit) →
    exec i s = .refused .badConfig) ∧
  (∀ (s : State) (rest : List Input), s.input = .reset :: rest → s.cfg.legal = false →
    perform .reset s = .refused .badConfig ∧ step s = .next { s with input := rest, refused := true, out := [] })

/-- Every operation completes in every state the block performs operations in: none traps and none is privileged
(R121, R133; decision D19). -/
def Obligations.EveryOperationCompletes : Prop :=
  ∀ (s : State) (i : Instr), Ready s → ∃ t, exec i s = .next t

/-- No operation writes the configuration, which is kept for the whole run (R7, R145; carried in State by log entry 1). -/
def Obligations.ConfigurationIsKept : Prop :=
  ∀ s t : State, step s = .next t → t.cfg = s.cfg

/-- Every register has one writer besides RESET (R21, R55; R55 rests on decision D24): what changed tells which
operation the step performed. -/
def Obligations.EachRegisterHasOneWriter : Prop :=
  ∀ (s t : State) (w : CommandWord) (rest : List Input), s.input = .command w :: rest → step s = .next t →
    ((t.conf0 ≠ s.conf0 ∨ t.conf1 ≠ s.conf1 ∨ t.hist ≠ s.hist) → decode w = .ok .step) ∧
    (t.brakesOn ≠ s.brakesOn → ∃ v, decode w = .ok (.poll v)) ∧
    ((t.btnShift ≠ s.btnShift ∨ t.btnPressed ≠ s.btnPressed ∨ t.btnRun ≠ s.btnRun ∨ t.btnRuns ≠ s.btnRuns ∨
      t.btnLong ≠ s.btnLong) → ∃ p, decode w = .ok (.sample p)) ∧
    ((s.evtError = false ∧ t.evtError = true) → ∃ v, decode w = .ok (.poll v)) ∧
    ((s.evtClick = false ∧ t.evtClick = true) ∨ (s.evtLong = false ∧ t.evtLong = true) →
      ∃ p, decode w = .ok (.sample p)) ∧
    ((s.evtError = true ∧ t.evtError = false) ∨ (s.evtClick = true ∧ t.evtClick = false) ∨
      (s.evtLong = true ∧ t.evtLong = false) → decode w = .ok .step)

/-! ## RESET -/

/-- RESET leaves every register at the value of R41, from any state, and yields no call (R41, R142; the values of
`brakes_on` and of the button registers are the spec's decisions D10, D13, the atomic entry to Idle is D5). -/
def Obligations.ResetWritesEveryRegister : Prop :=
  ∀ (s : State) (rest : List Input), s.input = .reset :: rest → s.cfg.legal = true →
    step s = .next
      { cfg := s.cfg, conf0 := 1, conf1 := 0, hist := 0, evtError := false, evtClick := false, evtLong := false,
        brakesOn := false, btnShift := 0, btnPressed := false, btnRun := 0, btnRuns := 0, btnLong := false,
        refused := false, faulted := false, input := rest, out := [] }

/-- What survives reset: nothing (R144). Two states under one configuration are one state after RESET, outside Running with
`hist` Unset; every later step stays so or enters Headlights On: the first Running enters Headlights On. -/
def Obligations.NothingSurvivesReset : Prop :=
  (∀ (s u : State) (rest : List Input), s.input = .reset :: rest → u.input = .reset :: rest → s.cfg = u.cfg →
    s.cfg.legal = true → ∃ t, step s = .next t ∧ step u = .next t ∧ ¬Running t ∧ t.hist = 0) ∧
  (∀ s t : State, ¬Running s → s.hist = 0 → step s = .next t → (¬Running t ∧ t.hist = 0) ∨ t.conf0 = 2) ∧
  (∀ s : State, Ready s → s.conf0 = 1 → s.hist = 0 → s.evtClick = true →
    ∃ t, exec .step s = .next t ∧ t.conf0 = 2 ∧ t.out.take 2 = [.startCar, .headlightsOn])

/-- After RESET the block is in Idle with nothing pending, the button released and no press in progress, and the first
STEP requests the wait (R143, derived there from R142 and R97; R142 rests on decisions D5, D10 and D13). -/
def Obligations.InitialModeAfterReset : Prop :=
  ∀ c : Cfg, c.legal = true →
    Ready (State.resetWith c) ∧ pressInProgress (State.resetWith c) = false ∧
    exec .step (State.resetWith c) = .next { State.resetWith c with out := [.waitForInterrupt] }

/-! ## SAMPLE -/

/-- Every SAMPLE completes and shifts the new sample into bit 0 of the N-bit register, every other bit moving up and
the oldest dropped, whatever the classifier's state (R75, R76; decisions D9, D10). -/
def Obligations.SampleShiftsTheRegister : Prop :=
  ∀ (s : State) (p : PinLevel), Ready s →
    ∃ t, exec (.sample p) s = .next t ∧ t.btnShift < 2 ^ s.cfg.n ∧
      t.btnShift.testBit 0 = decide (p.toNat = s.cfg.pressLevel) ∧
      ∀ k, k + 1 < s.cfg.n → t.btnShift.testBit (k + 1) = s.btnShift.testBit k

/-- Press (R77): recognised when not pressed and the last N samples are all pressed, counters and latch 0, no event;
when already pressed an all-pressed register is no new press. -/
def Obligations.PressIsRecognised : Prop :=
  ∀ (s : State) (p : PinLevel) (shift : Nat), Ready s →
    shift = shiftIn s.cfg s.btnShift (pressedSample s.cfg p) →
    (s.btnPressed = false → shift = 2 ^ s.cfg.n - 1 →
      exec (.sample p) s = .next { s with
        btnShift := shift, btnPressed := true, btnRun := 0, btnRuns := 0, btnLong := false, out := [] }) ∧
    (s.btnPressed = false → shift ≠ 2 ^ s.cfg.n - 1 →
      exec (.sample p) s = .next { s with btnShift := shift, out := [] }) ∧
    (s.btnPressed = true → shift = 2 ^ s.cfg.n - 1 →
      ∃ t, exec (.sample p) s = .next t ∧ t.btnPressed = true ∧ t.evtClick = s.evtClick ∧
        (t.btnRuns = s.btnRuns ∨ t.btnRuns = s.btnRuns + 1) ∧ (s.btnLong = true → t.btnLong = true))

/-- Long run (R78; the counting is decision D11): while pressed and not latched a pressed sample adds 1 to `btn_run`; at
L it is written 0 and one run is completed. The run that makes M is `LongPressIsLatchedOnce`. -/
def Obligations.PressedSamplesAreCounted : Prop :=
  ∀ (s : State) (p : PinLevel), Ready s → s.btnPressed = true → s.btnLong = false → p.toNat = s.cfg.pressLevel →
    (s.btnRun + 1 ≠ s.cfg.l →
      exec (.sample p) s = .next { s with
        btnShift := shiftIn s.cfg s.btnShift true, btnRun := s.btnRun + 1, out := [] }) ∧
    (s.btnRun + 1 = s.cfg.l → s.btnRuns + 1 ≠ s.cfg.m →
      exec (.sample p) s = .next { s with
        btnShift := shiftIn s.cfg s.btnShift true, btnRun := 0, btnRuns := s.btnRuns + 1, out := [] })

/-- Long-press (R79; the counting that leads to it is R78, decision D11): the increment that makes `btn_runs` = M sets
the latch and raises long-press; nothing else raises it, and once latched no SAMPLE raises it again before the release.
-/
def Obligations.LongPressIsLatchedOnce : Prop :=
  ∀ (s : State) (p : PinLevel), Ready s →
    (s.btnPressed = true → s.btnLong = false → p.toNat = s.cfg.pressLevel → s.btnRun + 1 = s.cfg.l →
      s.btnRuns + 1 = s.cfg.m →
      exec (.sample p) s = .next { s with
        btnShift := shiftIn s.cfg s.btnShift true, btnRun := 0, btnRuns := s.cfg.m, btnLong := true, evtLong := true,
        out := [] }) ∧
    (s.btnPressed = true → s.btnLong = true →
      ∃ t, exec (.sample p) s = .next t ∧ t.evtLong = s.evtLong ∧ (t.btnLong = true ∨ t.btnPressed = false)) ∧
    (∀ t, exec (.sample p) s = .next t → t.evtLong ≠ s.evtLong →
      s.btnPressed = true ∧ s.btnLong = false ∧ p.toNat = s.cfg.pressLevel ∧ s.btnRun + 1 = s.cfg.l ∧
        s.btnRuns + 1 = s.cfg.m ∧ t.btnLong = true)

/-- Release and click (R80): N not-pressed samples while pressed raise click unless latched, and reset all counters and
the latch; the releasing sample is not counted. -/
def Obligations.ReleaseRaisesClickUnlessLatched : Prop :=
  ∀ (s : State) (p : PinLevel), Ready s → s.btnPressed = true →
    shiftIn s.cfg s.btnShift (pressedSample s.cfg p) = 0 →
    exec (.sample p) s = .next { s with
      btnShift := 0, btnPressed := false, btnRun := 0, btnRuns := 0, btnLong := false,
      evtClick := s.evtClick || !s.btnLong, out := [] }

/-- Bounce while pressed (R81; decision D11): a not-pressed sample that completes no release breaks the current run and
keeps the completed ones. -/
def Obligations.BounceBreaksTheRun : Prop :=
  ∀ (s : State) (p : PinLevel), Ready s → s.btnPressed = true → s.btnLong = false → p.toNat ≠ s.cfg.pressLevel →
    shiftIn s.cfg s.btnShift false ≠ 0 →
    exec (.sample p) s = .next { s with btnShift := shiftIn s.cfg s.btnShift false, btnRun := 0, out := [] }

/-- After the latch (R82): a SAMPLE only shifts and tests for release; the counters keep 0 and M; no event is raised,
at the release neither. The premises are invariants (`ButtonInvariantIsKept`, `BlockInvariantIsKept`). -/
def Obligations.LatchedPressOnlyShifts : Prop :=
  ∀ (s : State) (p : PinLevel) (shift : Nat), Ready s → ButtonInv s → DebounceInv s → s.btnLong = true →
    shift = shiftIn s.cfg s.btnShift (pressedSample s.cfg p) →
    s.btnRun = 0 ∧ s.btnRuns = s.cfg.m ∧
    (shift ≠ 0 → exec (.sample p) s = .next { s with btnShift := shift, out := [] }) ∧
    (shift = 0 → ∃ t, exec (.sample p) s = .next t ∧ t.btnPressed = false ∧ t.evtClick = s.evtClick ∧
      t.evtLong = s.evtLong)

/-- The frame of SAMPLE (R33, R38, R73): it writes only the `btn_*` registers and raises only click and long-press,
never clears an event, and emits nothing. -/
def Obligations.SampleFrame : Prop :=
  ∀ (s t : State) (p : PinLevel), exec (.sample p) s = .next t →
    (∀ r : Reg, r ∉ [Reg.evtClick, .evtLong, .btnShift, .btnPressed, .btnRun, .btnRuns, .btnLong] →
      r.read t = r.read s) ∧
    (s.evtClick = true → t.evtClick = true) ∧ (s.evtLong = true → t.evtLong = true) ∧
    t.out = [] ∧ t.cfg = s.cfg ∧ t.refused = s.refused ∧ t.faulted = s.faulted ∧ t.input = s.input

/-- One SAMPLE raises at most one of click and long-press (R74 'Flags written'; the branch order is decision D10, D11). -/
def Obligations.SampleRaisesAtMostOneEvent : Prop :=
  ∀ (s : State) (p : PinLevel), Ready s → s.evtClick = false → s.evtLong = false →
    ∃ t, exec (.sample p) s = .next t ∧ ¬(t.evtClick = true ∧ t.evtLong = true)

/-- Identification run (R83, derived there): the first 2N - 1 SAMPLEs after RESET raise no event, whatever they read. -/
def Obligations.IdentificationRunRaisesNothing : Prop :=
  ∀ (c : Cfg) (ps : List PinLevel), c.legal = true → ps.length < 2 * c.n →
    eventsRaised ps (State.resetWith c) = [] ∧
    ∃ t, samplesFrom ps (State.resetWith c) = some t ∧ t.evtClick = false ∧ t.evtLong = false

/-- Exclusion (R84, derived there): from a pressed, unlatched classifier, up to and including the SAMPLE that releases,
at most one event is raised, counting repetitions. -/
def Obligations.OneEventPerPressRelease : Prop :=
  ∀ (s : State) (ps : List PinLevel), Ready s → ButtonInv s → s.btnPressed = true → s.btnLong = false →
    (∀ k < ps.length, ∃ t, samplesFrom (ps.take k) s = some t ∧ t.btnPressed = true) →
    (eventsRaised ps s).length ≤ 1

/-- Thresholds of a clean press (R85, derived there): k pressed samples, then N not-pressed ones, from a released
classifier. State and events after each of the first j samples. -/
def Obligations.CleanPressThresholds : Prop :=
  ∀ (s : State) (k j : Nat), Ready s → s.btnPressed = false → s.btnShift = 0 →
    s.evtClick = false → s.evtLong = false → j ≤ k + s.cfg.n →
    ∃ t,
      samplesFrom
        ((List.replicate k (pressPin s.cfg) ++ List.replicate s.cfg.n (releasePin s.cfg)).take j) s = some t ∧
      (t.btnPressed = true ↔ s.cfg.n ≤ k ∧ s.cfg.n ≤ j ∧ j < k + s.cfg.n) ∧
      (t.evtClick = true ↔ s.cfg.n ≤ k ∧ k < s.cfg.n + s.cfg.l * s.cfg.m ∧ j = k + s.cfg.n) ∧
      (t.evtLong = true ↔ s.cfg.n + s.cfg.l * s.cfg.m ≤ k ∧ s.cfg.n + s.cfg.l * s.cfg.m ≤ j)

/-- `press_in_progress` after a SAMPLE (R32, R86; decision D12): 1 as soon as one pressed sample is in the register,
and 0 exactly when all N samples in it are not pressed. The premise is the block's invariant. -/
def Obligations.PressInProgressFollowsTheRegister : Prop :=
  ∀ (s : State) (p : PinLevel), Ready s → BlockInv s →
    ∃ t, exec (.sample p) s = .next t ∧
      (pressInProgress t = false ↔ ∀ k < s.cfg.n, t.btnShift.testBit k = false) ∧
      (p.toNat = s.cfg.pressLevel → pressInProgress t = true)

/-! ## POLL -/

/-- POLL (R88): word 0x8000 | v; raises the error event when the error flag is set and never clears it, always writes
the brakes level, emits nothing, and changes nothing else. -/
def Obligations.PollResult : Prop :=
  ∀ v : StatusByte,
    (encode (.poll v)).toNat = 0x8000 + v.toNat ∧
    ∀ s : State, Ready s →
      exec (.poll v) s = .next { s with
        evtError := s.evtError || v.getLsbD s.cfg.errorBit, brakesOn := !v.getLsbD s.cfg.awakeBit, out := [] }

/-- Awake mapping (R90): the last POLL decides the level, 1 when not awake, 0 when awake, and STEP reads that value: a
STEP that stays in Running leaves Brakes_On exactly when the last POLL read "not awake". -/
def Obligations.BrakesFollowTheLastPoll : Prop :=
  ∀ (s : State) (a b : StatusByte), Ready s → RegionInv s →
    ∃ t u, exec (.poll a) s = .next t ∧ exec (.poll b) t = .next u ∧
      (b.getLsbD s.cfg.awakeBit = false → u.brakesOn = true) ∧
      (b.getLsbD s.cfg.awakeBit = true → u.brakesOn = false) ∧
      ∃ v, exec .step u = .next v ∧
        (Running s → Running v → (v.conf1 = 1 ↔ b.getLsbD s.cfg.awakeBit = false) ∧
          (v.conf1 = 2 ↔ b.getLsbD s.cfg.awakeBit = true))

/-- A persisting error flag raises the error event again on the POLL after the STEP that cleared it (R89, R140;
decision D15). -/
def Obligations.PersistingErrorIsRaisedAgain : Prop :=
  ∀ (s : State) (v : StatusByte), Ready s → v.getLsbD s.cfg.errorBit = true →
    ∃ t u w, exec (.poll v) s = .next t ∧ t.evtError = true ∧ exec .step t = .next u ∧ u.evtError = false ∧
      exec (.poll v) u = .next w ∧ w.evtError = true

/-- POLL is idempotent (R49, derived there). -/
def Obligations.PollIsIdempotent : Prop :=
  ∀ (s : State) (v : StatusByte), Ready s → ∃ t, exec (.poll v) s = .next t ∧ exec (.poll v) t = .next t

/-- The other six bits of the status change nothing (R61, R92; decisions D14, D25). -/
def Obligations.PollReadsTwoBits : Prop :=
  ∀ (s : State) (v w : StatusByte), v.getLsbD s.cfg.awakeBit = w.getLsbD s.cfg.awakeBit →
    v.getLsbD s.cfg.errorBit = w.getLsbD s.cfg.errorBit → exec (.poll v) s = exec (.poll w) s

/-- The frame of POLL (R33, R38, R87): it writes `brakes_on`, raises only the error event, clears none, and emits
nothing. -/
def Obligations.PollFrame : Prop :=
  ∀ (s t : State) (v : StatusByte), exec (.poll v) s = .next t →
    (∀ r : Reg, r ∉ [Reg.evtError, .brakesOn] → r.read t = r.read s) ∧
    (s.evtError = true → t.evtError = true) ∧
    t.out = [] ∧ t.cfg = s.cfg ∧ t.refused = s.refused ∧ t.faulted = s.faulted ∧ t.input = s.input

/-! ## STEP -/

/-- Idle (R97): with a click it enters Running, otherwise it requests the wait and stays; it reacts to neither
long-press nor error. `conf1 = 0` is the region invariant in Idle. -/
def Obligations.IdleReaction : Prop :=
  ∀ s : State, Ready s → s.conf0 = 1 → s.conf1 = 0 →
    (s.evtClick = false → exec .step s = .next { s with
      evtError := false, evtClick := false, evtLong := false, out := [.waitForInterrupt] }) ∧
    (s.evtClick = true → ∃ t, exec .step s = .next t ∧ Running t ∧ t.out.head? = some .startCar) ∧
    (∀ l e, exec .step { s with evtLong := l, evtError := e } = exec .step s)

/-- Entering Running (R108, R109, R111): `start_car`, then Headlights by history or the default On, then Taillights at
Brakes_Off; slot 1 then reacts in the same STEP to `brakes_on` (R95, decision D8: the last entry of the output);
that `hist` is written on the entry is R110, decision D27. -/
def Obligations.ClickEntersRunning : Prop :=
  ∀ s : State, Ready s → s.conf0 = 1 → s.evtClick = true →
    exec .step s = .next { s with
      conf0 := if s.hist = 2 then 3 else 2
      hist := if s.hist = 2 then 2 else 1
      conf1 := if s.brakesOn then 1 else 2
      evtError := false, evtClick := false, evtLong := false
      out := [.startCar, if s.hist = 2 then .headlightsOff else .headlightsOn, .taillightsDim] ++
        (if s.brakesOn then [.taillightsBright] else []) }

/-- Running priority (R98): long-press first, then error, otherwise the wait request and then the Headlights reaction,
the request being emitted with a click pending or not. -/
def Obligations.RunningPriority : Prop :=
  ∀ s : State, Ready s → Running s →
    ∃ t, exec .step s = .next t ∧
      (s.evtLong = true → t.conf0 = 1) ∧
      (s.evtLong = false → s.evtError = true → t.conf0 = 4) ∧
      (s.evtLong = false → s.evtError = false →
        t.out.head? = some .waitForInterrupt ∧
        (s.evtClick = false → t.conf0 = s.conf0) ∧
        (s.evtClick = true → s.conf0 = 2 → t.conf0 = 3 ∧ t.out.take 2 = [.waitForInterrupt, .headlightsOff]) ∧
        (s.evtClick = true → s.conf0 = 3 → t.conf0 = 2 ∧ t.out.take 2 = [.waitForInterrupt, .headlightsOn]))

/-- Running to Idle on long-press (R99): both sub-regions exited, the history saved, output [stop_car]. -/
def Obligations.LongPressStopsToIdle : Prop :=
  ∀ s : State, Ready s → Running s → s.evtLong = true →
    exec .step s = .next { s with
      conf0 := 1, conf1 := 0, hist := if s.conf0 = 2 then 1 else 2
      evtError := false, evtClick := false, evtLong := false, out := [.stopCar] }

/-- Running to Error (R100; that `stop_car` is part of this exit is decision D7): output [stop_car, handle_error]. -/
def Obligations.ErrorEventEntersError : Prop :=
  ∀ s : State, Ready s → Running s → s.evtLong = false → s.evtError = true →
    exec .step s = .next { s with
      conf0 := 4, conf1 := 0, hist := if s.conf0 = 2 then 1 else 2
      evtError := false, evtClick := false, evtLong := false, out := [.stopCar, .handleError] }

/-- Headlights toggle (R101, R102; that `hist` is written on the entry is R110, decision D27): a click with neither
long-press nor error pending moves On to Off and Off to On, the call following the wait request, and leaves the
Taillights as they would be without it. -/
def Obligations.ClickTogglesHeadlights : Prop :=
  ∀ s : State, Ready s → Running s → s.evtLong = false → s.evtError = false → s.evtClick = true →
    ∃ t u, exec .step s = .next t ∧ exec .step { s with evtClick := false } = .next u ∧ t.conf1 = u.conf1 ∧
      (s.conf0 = 2 → t.conf0 = 3 ∧ t.hist = 2 ∧
        t.out = [.waitForInterrupt, .headlightsOff] ++ u.out.drop 1) ∧
      (s.conf0 = 3 → t.conf0 = 2 ∧ t.hist = 1 ∧
        t.out = [.waitForInterrupt, .headlightsOn] ++ u.out.drop 1)

/-- Error to Idle (R103): unconditionally at the next STEP, whatever the in-events hold, with no output; Error is entered
by one STEP and left by the next, not in the same one. `conf1 = 0` is the region invariant in Error. -/
def Obligations.ErrorReturnsToIdle : Prop :=
  (∀ s : State, Ready s → s.conf0 = 4 → s.conf1 = 0 →
    exec .step s = .next { s with conf0 := 1, evtError := false, evtClick := false, evtLong := false, out := [] }) ∧
  (∀ s : State, Ready s → Running s → s.evtLong = false → s.evtError = true →
    ∃ t u, exec .step s = .next t ∧ t.conf0 = 4 ∧ exec .step t = .next u ∧ u.conf0 = 1 ∧ u.out = [])

/-- Slot 1 (R104, R105, R106), evaluated on what slot 0 left (R95, decision D8): Brakes_Off goes to Brakes_On when
`brakes_on` is 1, back when it is 0, a reading equal to the state takes no transition, Unset does nothing, and slot 1
reads no in-event. -/
def Obligations.TaillightsReaction : Prop :=
  ∀ s u : State, Ready s → u = slotZero { s with out := [] } →
    ∃ t, exec .step s = .next t ∧
      (u.conf1 = 2 → s.brakesOn = true → t.conf1 = 1 ∧ t.out = u.out ++ [.taillightsBright]) ∧
      (u.conf1 = 1 → s.brakesOn = false → t.conf1 = 2 ∧ t.out = u.out ++ [.taillightsDim]) ∧
      (u.conf1 = 2 → s.brakesOn = false → t.conf1 = 2 ∧ t.out = u.out) ∧
      (u.conf1 = 1 → s.brakesOn = true → t.conf1 = 1 ∧ t.out = u.out) ∧
      (u.conf1 = 0 → t.conf1 = 0 ∧ t.out = u.out)

/-- End of cycle (R107): every STEP leaves the three in-events 0, read or not, and does not clear `brakes_on`. -/
def Obligations.StepClearsTheEvents : Prop :=
  ∀ s : State, Ready s →
    ∃ t, exec .step s = .next t ∧ t.evtError = false ∧ t.evtClick = false ∧ t.evtLong = false ∧
      t.brakesOn = s.brakesOn

/-- The complete transition table (R119, R120, derived there), as `Safety` writes it from the tables. The history invariant
is the premise, since the table reads `hist` off the state. -/
def Obligations.StepFollowsTheTransitionTable : Prop :=
  ∀ (s : State) (k' c1 : Nat), Ready s → HistoryInv s →
    k' = tableConf0 s.conf0.toNat s.evtClick s.evtLong s.evtError s.hist.toNat →
    c1 = tableConf1 s.conf0.toNat k' s.conf1.toNat →
    exec .step s = .next { s with
      conf0 := BitVec.ofNat 3 k'
      conf1 := BitVec.ofNat 2 (tableConf1After c1 s.brakesOn)
      hist := BitVec.ofNat 2 (tableHist s.conf0.toNat k' s.hist.toNat)
      evtError := false, evtClick := false, evtLong := false
      out := tableOut0 s.conf0.toNat s.evtClick s.evtLong s.evtError s.hist.toNat ++ tableOut1 c1 s.brakesOn }

/-- The possible outputs (R65, R120, derived there): one of the listed ones, never longer than 4, never with
`taillights_off`. The region invariant is the premise. -/
def Obligations.StepOutputIsAListedOne : Prop :=
  ∀ s : State, Ready s → RegionInv s →
    ∃ t, exec .step s = .next t ∧ t.out ∈ possibleOutputs ∧ t.out.length ≤ 4 ∧
      ActuatorCall.taillightsOff ∉ t.out

/-- The frame of STEP (R38, R94 'Flags written'): it writes `conf0`, `conf1`, `hist` and the three in-events, never
`brakes_on` or a `btn_*` register. -/
def Obligations.StepFrame : Prop :=
  ∀ s t : State, exec .step s = .next t →
    (∀ r : Reg, r ∉ [Reg.conf0, .conf1, .hist, .evtError, .evtClick, .evtLong] → r.read t = r.read s) ∧
    t.cfg = s.cfg ∧ t.refused = s.refused ∧ t.faulted = s.faulted ∧ t.input = s.input

/-- STEP reads only `conf0`, `conf1`, `hist`, the in-events and `brakes_on` (R94 'Operands'): two states that agree on
them, whatever their configuration and button, take the same transition and yield the same output. -/
def Obligations.StepReadsSevenRegisters : Prop :=
  ∀ s u : State, Ready s → Ready u →
    (∀ r ∈ [Reg.conf0, .conf1, .hist, .evtError, .evtClick, .evtLong, .brakesOn], r.read s = r.read u) →
    ∃ t v, exec .step s = .next t ∧ exec .step u = .next v ∧ t.out = v.out ∧
      ∀ r ∈ [Reg.conf0, .conf1, .hist, .evtError, .evtClick, .evtLong, .brakesOn], r.read t = r.read v

/-- In Running the Taillights show the brakes level after every STEP (R95, R104, R105, R111; R95 rests on decision D8). -/
def Obligations.TaillightsShowTheBrakesLevel : Prop :=
  ∀ s : State, Ready s → RegionInv s →
    ∃ t, exec .step s = .next t ∧ (Running t → (t.conf1 = 1 ↔ s.brakesOn = true) ∧ (t.conf1 = 2 ↔ s.brakesOn = false))

/-- Only Running enters Error, so Error does not nest (R118, R132): from Idle and from Error no STEP leads to Error. -/
def Obligations.ErrorDoesNotNest : Prop :=
  ∀ s : State, Ready s → (s.conf0 = 1 ∨ s.conf0 = 4) → ∃ t, exec .step s = .next t ∧ t.conf0 ≠ 4

/-- The shallow history restores the Headlights sub-state that was left, after a long-press and after an error
(R99, R100, R109, R114; R100 and R114 rest on decisions D6, D7, D27). -/
def Obligations.HistoryRestoresHeadlights : Prop :=
  ∀ s : State, Ready s → Running s →
    (s.evtLong = true →
      ∃ t u, exec .step s = .next t ∧ t.conf0 = 1 ∧
        exec .step { t with evtClick := true } = .next u ∧ u.conf0 = s.conf0) ∧
    (s.evtLong = false → s.evtError = true →
      ∃ t u v, exec .step s = .next t ∧ t.conf0 = 4 ∧ exec .step t = .next u ∧ u.conf0 = 1 ∧
        exec .step { u with evtClick := true } = .next v ∧ v.conf0 = s.conf0)

/-- Visibility (R52): no SAMPLE and no POLL loses a pending event, so it is pending at the first STEP that follows, which
clears it. -/
def Obligations.EventsStayUntilTheNextStep : Prop :=
  ∀ (s t : State) (i : Instr), exec i s = .next t →
    (i ≠ .step → (s.evtError = true → t.evtError = true) ∧ (s.evtClick = true → t.evtClick = true) ∧
      (s.evtLong = true → t.evtLong = true)) ∧
    (i = .step → s.marked = false → t.evtError = false ∧ t.evtClick = false ∧ t.evtLong = false)

/-! ## Invariants -/

/-- The invariants hold after reset under every legal configuration, and so in `State.reset` (R35 to R37, R41;
`State.reset` takes the example configuration, log entry 1). -/
def Obligations.InvariantsHoldAtReset : Prop :=
  (∀ c : Cfg, c.legal = true → BlockInv (State.resetWith c) ∧ Ready (State.resetWith c)) ∧ BlockInv State.reset

/-- The region invariant (R35): every operation keeps it, and RESET establishes it from any state. -/
def Obligations.RegionInvariantIsKept : Prop :=
  (∀ s t : State, RegionInv s → step s = .next t → RegionInv t) ∧
  (∀ (s : State) (rest : List Input), s.input = .reset :: rest → s.cfg.legal = true →
    ∃ t, step s = .next t ∧ RegionInv t)

/-- The history invariant (R36, derived there): every step keeps it, and once Running has been entered `hist` is not
Unset again until RESET. -/
def Obligations.HistoryInvariantIsKept : Prop :=
  (∀ s t : State, HistoryInv s → step s = .next t → HistoryInv t) ∧
  (∀ (s t : State) (w : CommandWord) (rest : List Input), s.input = .command w :: rest → s.hist ≠ 0 →
    step s = .next t → t.hist ≠ 0) ∧
  (∀ s : State, HistoryInv s → Running s → s.hist ≠ 0)

/-- The button invariants (R37, derived there): every step keeps them. -/
def Obligations.ButtonInvariantIsKept : Prop :=
  ∀ s t : State, ButtonInv s → step s = .next t → ButtonInv t

/-- The whole invariant is kept by every step from every state that has it, and no such state faults: `faulted` is never
set (R10, R30, R35 to R37, R44, R130; derived, decision D23). -/
def Obligations.BlockInvariantIsKept : Prop :=
  ∀ s : State, BlockInv s → ∃ t, step s = .next t ∧ BlockInv t ∧ (s.faulted = false → t.faulted = false)

/-- Never fatal (R139): from every state with the invariant and no mark, every operation completes in such a state
again. -/
def Obligations.NormalStatesStayNormal : Prop :=
  ∀ (s : State) (i : Instr), BlockInv s → s.marked = false →
    ∃ t, exec i s = .next t ∧ BlockInv t ∧ t.marked = false

/-- Under the invariant every register holds a legal value of R21 and fits its width (R10, R21; widths are decision
D22). -/
def Obligations.RegistersHoldLegalValues : Prop :=
  ∀ s : State, BlockInv s → ∀ r : Reg, r.legalValue s.cfg (r.read s) = true ∧ r.read s < 2 ^ r.width s.cfg

/-! ## The wait request -/

/-- Honouring the wait (R136; decisions D12, D20): for each call a STEP yielded, performed after any operations `is` that
the host let come between (R128), the host may suspend exactly when the call is the wait request and all N samples in the
register of THAT moment are not pressed. The premise is the block's invariant. -/
def Obligations.WaitIsHonouredOnlyWithNoPress : Prop :=
  ∀ (s : State) (is : List Instr), Ready s → BlockInv s →
    ∃ t u, exec .step s = .next t ∧ operationsFrom is t = some u ∧
      ∀ c ∈ t.out, mayHonourWait c u = true ↔
        c = .waitForInterrupt ∧ ∀ k < s.cfg.n, u.btnShift.testBit k = false
end

