-- ==== Sys2Proof/Laws/State.lean ====
section
/-!
SUPPORT. One lemma per field per named update of the state, each true by rfl, so that no proof unfolds a record update.
-/

namespace Sys2Proof.Machine

@[simp] theorem startOutput_cfg (s : State) : (startOutput s).cfg = s.cfg := rfl
@[simp] theorem startOutput_conf0 (s : State) : (startOutput s).conf0 = s.conf0 := rfl
@[simp] theorem startOutput_conf1 (s : State) : (startOutput s).conf1 = s.conf1 := rfl
@[simp] theorem startOutput_hist (s : State) : (startOutput s).hist = s.hist := rfl
@[simp] theorem startOutput_evtError (s : State) : (startOutput s).evtError = s.evtError := rfl
@[simp] theorem startOutput_evtClick (s : State) : (startOutput s).evtClick = s.evtClick := rfl
@[simp] theorem startOutput_evtLong (s : State) : (startOutput s).evtLong = s.evtLong := rfl
@[simp] theorem startOutput_brakesOn (s : State) : (startOutput s).brakesOn = s.brakesOn := rfl
@[simp] theorem startOutput_btnShift (s : State) : (startOutput s).btnShift = s.btnShift := rfl
@[simp] theorem startOutput_btnPressed (s : State) : (startOutput s).btnPressed = s.btnPressed := rfl
@[simp] theorem startOutput_btnRun (s : State) : (startOutput s).btnRun = s.btnRun := rfl
@[simp] theorem startOutput_btnRuns (s : State) : (startOutput s).btnRuns = s.btnRuns := rfl
@[simp] theorem startOutput_btnLong (s : State) : (startOutput s).btnLong = s.btnLong := rfl
@[simp] theorem startOutput_refused (s : State) : (startOutput s).refused = s.refused := rfl
@[simp] theorem startOutput_faulted (s : State) : (startOutput s).faulted = s.faulted := rfl
@[simp] theorem startOutput_input (s : State) : (startOutput s).input = s.input := rfl
@[simp] theorem startOutput_out (s : State) : (startOutput s).out = [] := rfl

@[simp] theorem emit_cfg (c : ActuatorCall) (s : State) : (emit c s).cfg = s.cfg := rfl
@[simp] theorem emit_conf0 (c : ActuatorCall) (s : State) : (emit c s).conf0 = s.conf0 := rfl
@[simp] theorem emit_conf1 (c : ActuatorCall) (s : State) : (emit c s).conf1 = s.conf1 := rfl
@[simp] theorem emit_hist (c : ActuatorCall) (s : State) : (emit c s).hist = s.hist := rfl
@[simp] theorem emit_evtError (c : ActuatorCall) (s : State) : (emit c s).evtError = s.evtError := rfl
@[simp] theorem emit_evtClick (c : ActuatorCall) (s : State) : (emit c s).evtClick = s.evtClick := rfl
@[simp] theorem emit_evtLong (c : ActuatorCall) (s : State) : (emit c s).evtLong = s.evtLong := rfl
@[simp] theorem emit_brakesOn (c : ActuatorCall) (s : State) : (emit c s).brakesOn = s.brakesOn := rfl
@[simp] theorem emit_btnShift (c : ActuatorCall) (s : State) : (emit c s).btnShift = s.btnShift := rfl
@[simp] theorem emit_btnPressed (c : ActuatorCall) (s : State) : (emit c s).btnPressed = s.btnPressed := rfl
@[simp] theorem emit_btnRun (c : ActuatorCall) (s : State) : (emit c s).btnRun = s.btnRun := rfl
@[simp] theorem emit_btnRuns (c : ActuatorCall) (s : State) : (emit c s).btnRuns = s.btnRuns := rfl
@[simp] theorem emit_btnLong (c : ActuatorCall) (s : State) : (emit c s).btnLong = s.btnLong := rfl
@[simp] theorem emit_refused (c : ActuatorCall) (s : State) : (emit c s).refused = s.refused := rfl
@[simp] theorem emit_faulted (c : ActuatorCall) (s : State) : (emit c s).faulted = s.faulted := rfl
@[simp] theorem emit_input (c : ActuatorCall) (s : State) : (emit c s).input = s.input := rfl
@[simp] theorem emit_out (c : ActuatorCall) (s : State) : (emit c s).out = s.out ++ [c] := rfl

@[simp] theorem raiseEvent_error_cfg (s : State) : (raiseEvent .error s).cfg = s.cfg := rfl
@[simp] theorem raiseEvent_error_conf0 (s : State) : (raiseEvent .error s).conf0 = s.conf0 := rfl
@[simp] theorem raiseEvent_error_conf1 (s : State) : (raiseEvent .error s).conf1 = s.conf1 := rfl
@[simp] theorem raiseEvent_error_hist (s : State) : (raiseEvent .error s).hist = s.hist := rfl
@[simp] theorem raiseEvent_error_evtError (s : State) : (raiseEvent .error s).evtError = true := rfl
@[simp] theorem raiseEvent_error_evtClick (s : State) : (raiseEvent .error s).evtClick = s.evtClick := rfl
@[simp] theorem raiseEvent_error_evtLong (s : State) : (raiseEvent .error s).evtLong = s.evtLong := rfl
@[simp] theorem raiseEvent_error_brakesOn (s : State) : (raiseEvent .error s).brakesOn = s.brakesOn := rfl
@[simp] theorem raiseEvent_error_btnShift (s : State) : (raiseEvent .error s).btnShift = s.btnShift := rfl
@[simp] theorem raiseEvent_error_btnPressed (s : State) : (raiseEvent .error s).btnPressed = s.btnPressed := rfl
@[simp] theorem raiseEvent_error_btnRun (s : State) : (raiseEvent .error s).btnRun = s.btnRun := rfl
@[simp] theorem raiseEvent_error_btnRuns (s : State) : (raiseEvent .error s).btnRuns = s.btnRuns := rfl
@[simp] theorem raiseEvent_error_btnLong (s : State) : (raiseEvent .error s).btnLong = s.btnLong := rfl
@[simp] theorem raiseEvent_error_refused (s : State) : (raiseEvent .error s).refused = s.refused := rfl
@[simp] theorem raiseEvent_error_faulted (s : State) : (raiseEvent .error s).faulted = s.faulted := rfl
@[simp] theorem raiseEvent_error_input (s : State) : (raiseEvent .error s).input = s.input := rfl
@[simp] theorem raiseEvent_error_out (s : State) : (raiseEvent .error s).out = s.out := rfl

@[simp] theorem raiseEvent_click_cfg (s : State) : (raiseEvent .click s).cfg = s.cfg := rfl
@[simp] theorem raiseEvent_click_conf0 (s : State) : (raiseEvent .click s).conf0 = s.conf0 := rfl
@[simp] theorem raiseEvent_click_conf1 (s : State) : (raiseEvent .click s).conf1 = s.conf1 := rfl
@[simp] theorem raiseEvent_click_hist (s : State) : (raiseEvent .click s).hist = s.hist := rfl
@[simp] theorem raiseEvent_click_evtError (s : State) : (raiseEvent .click s).evtError = s.evtError := rfl
@[simp] theorem raiseEvent_click_evtClick (s : State) : (raiseEvent .click s).evtClick = true := rfl
@[simp] theorem raiseEvent_click_evtLong (s : State) : (raiseEvent .click s).evtLong = s.evtLong := rfl
@[simp] theorem raiseEvent_click_brakesOn (s : State) : (raiseEvent .click s).brakesOn = s.brakesOn := rfl
@[simp] theorem raiseEvent_click_btnShift (s : State) : (raiseEvent .click s).btnShift = s.btnShift := rfl
@[simp] theorem raiseEvent_click_btnPressed (s : State) : (raiseEvent .click s).btnPressed = s.btnPressed := rfl
@[simp] theorem raiseEvent_click_btnRun (s : State) : (raiseEvent .click s).btnRun = s.btnRun := rfl
@[simp] theorem raiseEvent_click_btnRuns (s : State) : (raiseEvent .click s).btnRuns = s.btnRuns := rfl
@[simp] theorem raiseEvent_click_btnLong (s : State) : (raiseEvent .click s).btnLong = s.btnLong := rfl
@[simp] theorem raiseEvent_click_refused (s : State) : (raiseEvent .click s).refused = s.refused := rfl
@[simp] theorem raiseEvent_click_faulted (s : State) : (raiseEvent .click s).faulted = s.faulted := rfl
@[simp] theorem raiseEvent_click_input (s : State) : (raiseEvent .click s).input = s.input := rfl
@[simp] theorem raiseEvent_click_out (s : State) : (raiseEvent .click s).out = s.out := rfl

@[simp] theorem raiseEvent_long_cfg (s : State) : (raiseEvent .long s).cfg = s.cfg := rfl
@[simp] theorem raiseEvent_long_conf0 (s : State) : (raiseEvent .long s).conf0 = s.conf0 := rfl
@[simp] theorem raiseEvent_long_conf1 (s : State) : (raiseEvent .long s).conf1 = s.conf1 := rfl
@[simp] theorem raiseEvent_long_hist (s : State) : (raiseEvent .long s).hist = s.hist := rfl
@[simp] theorem raiseEvent_long_evtError (s : State) : (raiseEvent .long s).evtError = s.evtError := rfl
@[simp] theorem raiseEvent_long_evtClick (s : State) : (raiseEvent .long s).evtClick = s.evtClick := rfl
@[simp] theorem raiseEvent_long_evtLong (s : State) : (raiseEvent .long s).evtLong = true := rfl
@[simp] theorem raiseEvent_long_brakesOn (s : State) : (raiseEvent .long s).brakesOn = s.brakesOn := rfl
@[simp] theorem raiseEvent_long_btnShift (s : State) : (raiseEvent .long s).btnShift = s.btnShift := rfl
@[simp] theorem raiseEvent_long_btnPressed (s : State) : (raiseEvent .long s).btnPressed = s.btnPressed := rfl
@[simp] theorem raiseEvent_long_btnRun (s : State) : (raiseEvent .long s).btnRun = s.btnRun := rfl
@[simp] theorem raiseEvent_long_btnRuns (s : State) : (raiseEvent .long s).btnRuns = s.btnRuns := rfl
@[simp] theorem raiseEvent_long_btnLong (s : State) : (raiseEvent .long s).btnLong = s.btnLong := rfl
@[simp] theorem raiseEvent_long_refused (s : State) : (raiseEvent .long s).refused = s.refused := rfl
@[simp] theorem raiseEvent_long_faulted (s : State) : (raiseEvent .long s).faulted = s.faulted := rfl
@[simp] theorem raiseEvent_long_input (s : State) : (raiseEvent .long s).input = s.input := rfl
@[simp] theorem raiseEvent_long_out (s : State) : (raiseEvent .long s).out = s.out := rfl

@[simp] theorem clearEvents_cfg (s : State) : (clearEvents s).cfg = s.cfg := rfl
@[simp] theorem clearEvents_conf0 (s : State) : (clearEvents s).conf0 = s.conf0 := rfl
@[simp] theorem clearEvents_conf1 (s : State) : (clearEvents s).conf1 = s.conf1 := rfl
@[simp] theorem clearEvents_hist (s : State) : (clearEvents s).hist = s.hist := rfl
@[simp] theorem clearEvents_evtError (s : State) : (clearEvents s).evtError = false := rfl
@[simp] theorem clearEvents_evtClick (s : State) : (clearEvents s).evtClick = false := rfl
@[simp] theorem clearEvents_evtLong (s : State) : (clearEvents s).evtLong = false := rfl
@[simp] theorem clearEvents_brakesOn (s : State) : (clearEvents s).brakesOn = s.brakesOn := rfl
@[simp] theorem clearEvents_btnShift (s : State) : (clearEvents s).btnShift = s.btnShift := rfl
@[simp] theorem clearEvents_btnPressed (s : State) : (clearEvents s).btnPressed = s.btnPressed := rfl
@[simp] theorem clearEvents_btnRun (s : State) : (clearEvents s).btnRun = s.btnRun := rfl
@[simp] theorem clearEvents_btnRuns (s : State) : (clearEvents s).btnRuns = s.btnRuns := rfl
@[simp] theorem clearEvents_btnLong (s : State) : (clearEvents s).btnLong = s.btnLong := rfl
@[simp] theorem clearEvents_refused (s : State) : (clearEvents s).refused = s.refused := rfl
@[simp] theorem clearEvents_faulted (s : State) : (clearEvents s).faulted = s.faulted := rfl
@[simp] theorem clearEvents_input (s : State) : (clearEvents s).input = s.input := rfl
@[simp] theorem clearEvents_out (s : State) : (clearEvents s).out = s.out := rfl

@[simp] theorem writeBrakes_cfg (a : Bool) (s : State) : (writeBrakes a s).cfg = s.cfg := rfl
@[simp] theorem writeBrakes_conf0 (a : Bool) (s : State) : (writeBrakes a s).conf0 = s.conf0 := rfl
@[simp] theorem writeBrakes_conf1 (a : Bool) (s : State) : (writeBrakes a s).conf1 = s.conf1 := rfl
@[simp] theorem writeBrakes_hist (a : Bool) (s : State) : (writeBrakes a s).hist = s.hist := rfl
@[simp] theorem writeBrakes_evtError (a : Bool) (s : State) : (writeBrakes a s).evtError = s.evtError := rfl
@[simp] theorem writeBrakes_evtClick (a : Bool) (s : State) : (writeBrakes a s).evtClick = s.evtClick := rfl
@[simp] theorem writeBrakes_evtLong (a : Bool) (s : State) : (writeBrakes a s).evtLong = s.evtLong := rfl
@[simp] theorem writeBrakes_brakesOn (a : Bool) (s : State) : (writeBrakes a s).brakesOn = !a := rfl
@[simp] theorem writeBrakes_btnShift (a : Bool) (s : State) : (writeBrakes a s).btnShift = s.btnShift := rfl
@[simp] theorem writeBrakes_btnPressed (a : Bool) (s : State) : (writeBrakes a s).btnPressed = s.btnPressed := rfl
@[simp] theorem writeBrakes_btnRun (a : Bool) (s : State) : (writeBrakes a s).btnRun = s.btnRun := rfl
@[simp] theorem writeBrakes_btnRuns (a : Bool) (s : State) : (writeBrakes a s).btnRuns = s.btnRuns := rfl
@[simp] theorem writeBrakes_btnLong (a : Bool) (s : State) : (writeBrakes a s).btnLong = s.btnLong := rfl
@[simp] theorem writeBrakes_refused (a : Bool) (s : State) : (writeBrakes a s).refused = s.refused := rfl
@[simp] theorem writeBrakes_faulted (a : Bool) (s : State) : (writeBrakes a s).faulted = s.faulted := rfl
@[simp] theorem writeBrakes_input (a : Bool) (s : State) : (writeBrakes a s).input = s.input := rfl
@[simp] theorem writeBrakes_out (a : Bool) (s : State) : (writeBrakes a s).out = s.out := rfl

@[simp] theorem markRefused_cfg (s : State) : (markRefused s).cfg = s.cfg := rfl
@[simp] theorem markRefused_conf0 (s : State) : (markRefused s).conf0 = s.conf0 := rfl
@[simp] theorem markRefused_conf1 (s : State) : (markRefused s).conf1 = s.conf1 := rfl
@[simp] theorem markRefused_hist (s : State) : (markRefused s).hist = s.hist := rfl
@[simp] theorem markRefused_evtError (s : State) : (markRefused s).evtError = s.evtError := rfl
@[simp] theorem markRefused_evtClick (s : State) : (markRefused s).evtClick = s.evtClick := rfl
@[simp] theorem markRefused_evtLong (s : State) : (markRefused s).evtLong = s.evtLong := rfl
@[simp] theorem markRefused_brakesOn (s : State) : (markRefused s).brakesOn = s.brakesOn := rfl
@[simp] theorem markRefused_btnShift (s : State) : (markRefused s).btnShift = s.btnShift := rfl
@[simp] theorem markRefused_btnPressed (s : State) : (markRefused s).btnPressed = s.btnPressed := rfl
@[simp] theorem markRefused_btnRun (s : State) : (markRefused s).btnRun = s.btnRun := rfl
@[simp] theorem markRefused_btnRuns (s : State) : (markRefused s).btnRuns = s.btnRuns := rfl
@[simp] theorem markRefused_btnLong (s : State) : (markRefused s).btnLong = s.btnLong := rfl
@[simp] theorem markRefused_refused (s : State) : (markRefused s).refused = true := rfl
@[simp] theorem markRefused_faulted (s : State) : (markRefused s).faulted = s.faulted := rfl
@[simp] theorem markRefused_input (s : State) : (markRefused s).input = s.input := rfl
@[simp] theorem markRefused_out (s : State) : (markRefused s).out = [] := rfl

@[simp] theorem markFaulted_cfg (s : State) : (markFaulted s).cfg = s.cfg := rfl
@[simp] theorem markFaulted_conf0 (s : State) : (markFaulted s).conf0 = s.conf0 := rfl
@[simp] theorem markFaulted_conf1 (s : State) : (markFaulted s).conf1 = s.conf1 := rfl
@[simp] theorem markFaulted_hist (s : State) : (markFaulted s).hist = s.hist := rfl
@[simp] theorem markFaulted_evtError (s : State) : (markFaulted s).evtError = s.evtError := rfl
@[simp] theorem markFaulted_evtClick (s : State) : (markFaulted s).evtClick = s.evtClick := rfl
@[simp] theorem markFaulted_evtLong (s : State) : (markFaulted s).evtLong = s.evtLong := rfl
@[simp] theorem markFaulted_brakesOn (s : State) : (markFaulted s).brakesOn = s.brakesOn := rfl
@[simp] theorem markFaulted_btnShift (s : State) : (markFaulted s).btnShift = s.btnShift := rfl
@[simp] theorem markFaulted_btnPressed (s : State) : (markFaulted s).btnPressed = s.btnPressed := rfl
@[simp] theorem markFaulted_btnRun (s : State) : (markFaulted s).btnRun = s.btnRun := rfl
@[simp] theorem markFaulted_btnRuns (s : State) : (markFaulted s).btnRuns = s.btnRuns := rfl
@[simp] theorem markFaulted_btnLong (s : State) : (markFaulted s).btnLong = s.btnLong := rfl
@[simp] theorem markFaulted_refused (s : State) : (markFaulted s).refused = s.refused := rfl
@[simp] theorem markFaulted_faulted (s : State) : (markFaulted s).faulted = true := rfl
@[simp] theorem markFaulted_input (s : State) : (markFaulted s).input = s.input := rfl
@[simp] theorem markFaulted_out (s : State) : (markFaulted s).out = [] := rfl

@[simp] theorem enterIdle_cfg (s : State) : (enterIdle s).cfg = s.cfg := rfl
@[simp] theorem enterIdle_conf0 (s : State) : (enterIdle s).conf0 = conf0Idle := rfl
@[simp] theorem enterIdle_conf1 (s : State) : (enterIdle s).conf1 = s.conf1 := rfl
@[simp] theorem enterIdle_hist (s : State) : (enterIdle s).hist = s.hist := rfl
@[simp] theorem enterIdle_evtError (s : State) : (enterIdle s).evtError = s.evtError := rfl
@[simp] theorem enterIdle_evtClick (s : State) : (enterIdle s).evtClick = s.evtClick := rfl
@[simp] theorem enterIdle_evtLong (s : State) : (enterIdle s).evtLong = s.evtLong := rfl
@[simp] theorem enterIdle_brakesOn (s : State) : (enterIdle s).brakesOn = s.brakesOn := rfl
@[simp] theorem enterIdle_btnShift (s : State) : (enterIdle s).btnShift = s.btnShift := rfl
@[simp] theorem enterIdle_btnPressed (s : State) : (enterIdle s).btnPressed = s.btnPressed := rfl
@[simp] theorem enterIdle_btnRun (s : State) : (enterIdle s).btnRun = s.btnRun := rfl
@[simp] theorem enterIdle_btnRuns (s : State) : (enterIdle s).btnRuns = s.btnRuns := rfl
@[simp] theorem enterIdle_btnLong (s : State) : (enterIdle s).btnLong = s.btnLong := rfl
@[simp] theorem enterIdle_refused (s : State) : (enterIdle s).refused = s.refused := rfl
@[simp] theorem enterIdle_faulted (s : State) : (enterIdle s).faulted = s.faulted := rfl
@[simp] theorem enterIdle_input (s : State) : (enterIdle s).input = s.input := rfl
@[simp] theorem enterIdle_out (s : State) : (enterIdle s).out = s.out := rfl

@[simp] theorem clearCounters_cfg (s : State) : (clearCounters s).cfg = s.cfg := rfl
@[simp] theorem clearCounters_conf0 (s : State) : (clearCounters s).conf0 = s.conf0 := rfl
@[simp] theorem clearCounters_conf1 (s : State) : (clearCounters s).conf1 = s.conf1 := rfl
@[simp] theorem clearCounters_hist (s : State) : (clearCounters s).hist = s.hist := rfl
@[simp] theorem clearCounters_evtError (s : State) : (clearCounters s).evtError = s.evtError := rfl
@[simp] theorem clearCounters_evtClick (s : State) : (clearCounters s).evtClick = s.evtClick := rfl
@[simp] theorem clearCounters_evtLong (s : State) : (clearCounters s).evtLong = s.evtLong := rfl
@[simp] theorem clearCounters_brakesOn (s : State) : (clearCounters s).brakesOn = s.brakesOn := rfl
@[simp] theorem clearCounters_btnShift (s : State) : (clearCounters s).btnShift = s.btnShift := rfl
@[simp] theorem clearCounters_btnPressed (s : State) : (clearCounters s).btnPressed = s.btnPressed := rfl
@[simp] theorem clearCounters_btnRun (s : State) : (clearCounters s).btnRun = 0 := rfl
@[simp] theorem clearCounters_btnRuns (s : State) : (clearCounters s).btnRuns = 0 := rfl
@[simp] theorem clearCounters_btnLong (s : State) : (clearCounters s).btnLong = false := rfl
@[simp] theorem clearCounters_refused (s : State) : (clearCounters s).refused = s.refused := rfl
@[simp] theorem clearCounters_faulted (s : State) : (clearCounters s).faulted = s.faulted := rfl
@[simp] theorem clearCounters_input (s : State) : (clearCounters s).input = s.input := rfl
@[simp] theorem clearCounters_out (s : State) : (clearCounters s).out = s.out := rfl

@[simp] theorem breakRun_cfg (s : State) : (breakRun s).cfg = s.cfg := rfl
@[simp] theorem breakRun_conf0 (s : State) : (breakRun s).conf0 = s.conf0 := rfl
@[simp] theorem breakRun_conf1 (s : State) : (breakRun s).conf1 = s.conf1 := rfl
@[simp] theorem breakRun_hist (s : State) : (breakRun s).hist = s.hist := rfl
@[simp] theorem breakRun_evtError (s : State) : (breakRun s).evtError = s.evtError := rfl
@[simp] theorem breakRun_evtClick (s : State) : (breakRun s).evtClick = s.evtClick := rfl
@[simp] theorem breakRun_evtLong (s : State) : (breakRun s).evtLong = s.evtLong := rfl
@[simp] theorem breakRun_brakesOn (s : State) : (breakRun s).brakesOn = s.brakesOn := rfl
@[simp] theorem breakRun_btnShift (s : State) : (breakRun s).btnShift = s.btnShift := rfl
@[simp] theorem breakRun_btnPressed (s : State) : (breakRun s).btnPressed = s.btnPressed := rfl
@[simp] theorem breakRun_btnRun (s : State) : (breakRun s).btnRun = 0 := rfl
@[simp] theorem breakRun_btnRuns (s : State) : (breakRun s).btnRuns = s.btnRuns := rfl
@[simp] theorem breakRun_btnLong (s : State) : (breakRun s).btnLong = s.btnLong := rfl
@[simp] theorem breakRun_refused (s : State) : (breakRun s).refused = s.refused := rfl
@[simp] theorem breakRun_faulted (s : State) : (breakRun s).faulted = s.faulted := rfl
@[simp] theorem breakRun_input (s : State) : (breakRun s).input = s.input := rfl
@[simp] theorem breakRun_out (s : State) : (breakRun s).out = s.out := rfl

@[simp] theorem enterError_cfg (s : State) : (enterError s).cfg = s.cfg := rfl
@[simp] theorem enterError_conf0 (s : State) : (enterError s).conf0 = conf0Error := rfl
@[simp] theorem enterError_conf1 (s : State) : (enterError s).conf1 = s.conf1 := rfl
@[simp] theorem enterError_hist (s : State) : (enterError s).hist = s.hist := rfl
@[simp] theorem enterError_evtError (s : State) : (enterError s).evtError = s.evtError := rfl
@[simp] theorem enterError_evtClick (s : State) : (enterError s).evtClick = s.evtClick := rfl
@[simp] theorem enterError_evtLong (s : State) : (enterError s).evtLong = s.evtLong := rfl
@[simp] theorem enterError_brakesOn (s : State) : (enterError s).brakesOn = s.brakesOn := rfl
@[simp] theorem enterError_btnShift (s : State) : (enterError s).btnShift = s.btnShift := rfl
@[simp] theorem enterError_btnPressed (s : State) : (enterError s).btnPressed = s.btnPressed := rfl
@[simp] theorem enterError_btnRun (s : State) : (enterError s).btnRun = s.btnRun := rfl
@[simp] theorem enterError_btnRuns (s : State) : (enterError s).btnRuns = s.btnRuns := rfl
@[simp] theorem enterError_btnLong (s : State) : (enterError s).btnLong = s.btnLong := rfl
@[simp] theorem enterError_refused (s : State) : (enterError s).refused = s.refused := rfl
@[simp] theorem enterError_faulted (s : State) : (enterError s).faulted = s.faulted := rfl
@[simp] theorem enterError_input (s : State) : (enterError s).input = s.input := rfl
@[simp] theorem enterError_out (s : State) : (enterError s).out = s.out ++ [.handleError] := rfl

@[simp] theorem enterHeadlight_cfg (x : Headlights) (s : State) : (enterHeadlight x s).cfg = s.cfg := rfl
@[simp] theorem enterHeadlight_conf0 (x : Headlights) (s : State) : (enterHeadlight x s).conf0 = x.conf0Code := rfl
@[simp] theorem enterHeadlight_conf1 (x : Headlights) (s : State) : (enterHeadlight x s).conf1 = s.conf1 := rfl
@[simp] theorem enterHeadlight_hist (x : Headlights) (s : State) : (enterHeadlight x s).hist = x.histCode := rfl
@[simp] theorem enterHeadlight_evtError (x : Headlights) (s : State) : (enterHeadlight x s).evtError = s.evtError := rfl
@[simp] theorem enterHeadlight_evtClick (x : Headlights) (s : State) : (enterHeadlight x s).evtClick = s.evtClick := rfl
@[simp] theorem enterHeadlight_evtLong (x : Headlights) (s : State) : (enterHeadlight x s).evtLong = s.evtLong := rfl
@[simp] theorem enterHeadlight_brakesOn (x : Headlights) (s : State) : (enterHeadlight x s).brakesOn = s.brakesOn := rfl
@[simp] theorem enterHeadlight_btnShift (x : Headlights) (s : State) : (enterHeadlight x s).btnShift = s.btnShift := rfl
@[simp] theorem enterHeadlight_btnPressed (x : Headlights) (s : State) : (enterHeadlight x s).btnPressed = s.btnPressed := rfl
@[simp] theorem enterHeadlight_btnRun (x : Headlights) (s : State) : (enterHeadlight x s).btnRun = s.btnRun := rfl
@[simp] theorem enterHeadlight_btnRuns (x : Headlights) (s : State) : (enterHeadlight x s).btnRuns = s.btnRuns := rfl
@[simp] theorem enterHeadlight_btnLong (x : Headlights) (s : State) : (enterHeadlight x s).btnLong = s.btnLong := rfl
@[simp] theorem enterHeadlight_refused (x : Headlights) (s : State) : (enterHeadlight x s).refused = s.refused := rfl
@[simp] theorem enterHeadlight_faulted (x : Headlights) (s : State) : (enterHeadlight x s).faulted = s.faulted := rfl
@[simp] theorem enterHeadlight_input (x : Headlights) (s : State) : (enterHeadlight x s).input = s.input := rfl
@[simp] theorem enterHeadlight_out (x : Headlights) (s : State) : (enterHeadlight x s).out = s.out ++ [x.entryCall] := rfl

@[simp] theorem enterTaillight_cfg (x : Taillights) (s : State) : (enterTaillight x s).cfg = s.cfg := rfl
@[simp] theorem enterTaillight_conf0 (x : Taillights) (s : State) : (enterTaillight x s).conf0 = s.conf0 := rfl
@[simp] theorem enterTaillight_conf1 (x : Taillights) (s : State) : (enterTaillight x s).conf1 = x.conf1Code := rfl
@[simp] theorem enterTaillight_hist (x : Taillights) (s : State) : (enterTaillight x s).hist = s.hist := rfl
@[simp] theorem enterTaillight_evtError (x : Taillights) (s : State) : (enterTaillight x s).evtError = s.evtError := rfl
@[simp] theorem enterTaillight_evtClick (x : Taillights) (s : State) : (enterTaillight x s).evtClick = s.evtClick := rfl
@[simp] theorem enterTaillight_evtLong (x : Taillights) (s : State) : (enterTaillight x s).evtLong = s.evtLong := rfl
@[simp] theorem enterTaillight_brakesOn (x : Taillights) (s : State) : (enterTaillight x s).brakesOn = s.brakesOn := rfl
@[simp] theorem enterTaillight_btnShift (x : Taillights) (s : State) : (enterTaillight x s).btnShift = s.btnShift := rfl
@[simp] theorem enterTaillight_btnPressed (x : Taillights) (s : State) : (enterTaillight x s).btnPressed = s.btnPressed := rfl
@[simp] theorem enterTaillight_btnRun (x : Taillights) (s : State) : (enterTaillight x s).btnRun = s.btnRun := rfl
@[simp] theorem enterTaillight_btnRuns (x : Taillights) (s : State) : (enterTaillight x s).btnRuns = s.btnRuns := rfl
@[simp] theorem enterTaillight_btnLong (x : Taillights) (s : State) : (enterTaillight x s).btnLong = s.btnLong := rfl
@[simp] theorem enterTaillight_refused (x : Taillights) (s : State) : (enterTaillight x s).refused = s.refused := rfl
@[simp] theorem enterTaillight_faulted (x : Taillights) (s : State) : (enterTaillight x s).faulted = s.faulted := rfl
@[simp] theorem enterTaillight_input (x : Taillights) (s : State) : (enterTaillight x s).input = s.input := rfl
@[simp] theorem enterTaillight_out (x : Taillights) (s : State) : (enterTaillight x s).out = s.out ++ [x.entryCall] := rfl

@[simp] theorem presentFirst_cfg (w : CommandWord) (s : State) : (presentFirst w s).cfg = s.cfg := rfl
@[simp] theorem presentFirst_conf0 (w : CommandWord) (s : State) : (presentFirst w s).conf0 = s.conf0 := rfl
@[simp] theorem presentFirst_conf1 (w : CommandWord) (s : State) : (presentFirst w s).conf1 = s.conf1 := rfl
@[simp] theorem presentFirst_hist (w : CommandWord) (s : State) : (presentFirst w s).hist = s.hist := rfl
@[simp] theorem presentFirst_evtError (w : CommandWord) (s : State) : (presentFirst w s).evtError = s.evtError := rfl
@[simp] theorem presentFirst_evtClick (w : CommandWord) (s : State) : (presentFirst w s).evtClick = s.evtClick := rfl
@[simp] theorem presentFirst_evtLong (w : CommandWord) (s : State) : (presentFirst w s).evtLong = s.evtLong := rfl
@[simp] theorem presentFirst_brakesOn (w : CommandWord) (s : State) : (presentFirst w s).brakesOn = s.brakesOn := rfl
@[simp] theorem presentFirst_btnShift (w : CommandWord) (s : State) : (presentFirst w s).btnShift = s.btnShift := rfl
@[simp] theorem presentFirst_btnPressed (w : CommandWord) (s : State) : (presentFirst w s).btnPressed = s.btnPressed := rfl
@[simp] theorem presentFirst_btnRun (w : CommandWord) (s : State) : (presentFirst w s).btnRun = s.btnRun := rfl
@[simp] theorem presentFirst_btnRuns (w : CommandWord) (s : State) : (presentFirst w s).btnRuns = s.btnRuns := rfl
@[simp] theorem presentFirst_btnLong (w : CommandWord) (s : State) : (presentFirst w s).btnLong = s.btnLong := rfl
@[simp] theorem presentFirst_refused (w : CommandWord) (s : State) : (presentFirst w s).refused = s.refused := rfl
@[simp] theorem presentFirst_faulted (w : CommandWord) (s : State) : (presentFirst w s).faulted = s.faulted := rfl
@[simp] theorem presentFirst_input (w : CommandWord) (s : State) : (presentFirst w s).input = .command w :: s.input := rfl
@[simp] theorem presentFirst_out (w : CommandWord) (s : State) : (presentFirst w s).out = s.out := rfl

@[simp] theorem State.resetWith_cfg (c : Cfg) : (State.resetWith c).cfg = c := rfl
@[simp] theorem State.resetWith_conf0 (c : Cfg) : (State.resetWith c).conf0 = conf0Idle := rfl
@[simp] theorem State.resetWith_conf1 (c : Cfg) : (State.resetWith c).conf1 = conf1Unset := rfl
@[simp] theorem State.resetWith_hist (c : Cfg) : (State.resetWith c).hist = histUnset := rfl
@[simp] theorem State.resetWith_evtError (c : Cfg) : (State.resetWith c).evtError = false := rfl
@[simp] theorem State.resetWith_evtClick (c : Cfg) : (State.resetWith c).evtClick = false := rfl
@[simp] theorem State.resetWith_evtLong (c : Cfg) : (State.resetWith c).evtLong = false := rfl
@[simp] theorem State.resetWith_brakesOn (c : Cfg) : (State.resetWith c).brakesOn = false := rfl
@[simp] theorem State.resetWith_btnShift (c : Cfg) : (State.resetWith c).btnShift = 0 := rfl
@[simp] theorem State.resetWith_btnPressed (c : Cfg) : (State.resetWith c).btnPressed = false := rfl
@[simp] theorem State.resetWith_btnRun (c : Cfg) : (State.resetWith c).btnRun = 0 := rfl
@[simp] theorem State.resetWith_btnRuns (c : Cfg) : (State.resetWith c).btnRuns = 0 := rfl
@[simp] theorem State.resetWith_btnLong (c : Cfg) : (State.resetWith c).btnLong = false := rfl
@[simp] theorem State.resetWith_refused (c : Cfg) : (State.resetWith c).refused = false := rfl
@[simp] theorem State.resetWith_faulted (c : Cfg) : (State.resetWith c).faulted = false := rfl
@[simp] theorem State.resetWith_input (c : Cfg) : (State.resetWith c).input = [] := rfl
@[simp] theorem State.resetWith_out (c : Cfg) : (State.resetWith c).out = [] := rfl

end Sys2Proof.Machine
end

