-- ==== Sys2Proof/Laws/Ops.lean ====
section
/-!
SUPPORT. What the shared operations can do, each said once: the checks before an operation, RESET, the recording of an
outcome, and the step.
-/

namespace Sys2Proof.Machine

/-- The legal values of R8 and R9, spelled out. -/
theorem legal_iff (c : Cfg) :
    c.legal = true ↔ 1 ≤ c.n ∧ c.n < c.l ∧ 1 ≤ c.m ∧ c.pressLevel ≤ 1 ∧ c.awakeBit ≤ 7 ∧ c.errorBit ≤ 7 ∧
      c.awakeBit ≠ c.errorBit := by
  simp [Cfg.legal, and_assoc]

/-- The legal codes of R44, spelled out. -/
theorem codesLegal_iff (s : State) :
    s.codesLegal = true ↔ 1 ≤ s.conf0.toNat ∧ s.conf0.toNat ≤ 4 ∧ s.conf1.toNat ≤ 2 ∧ s.hist.toNat ≤ 2 := by
  simp [State.codesLegal, and_assoc]

/-- The marks, the checks and the codes do not see the input list or the output list. -/
@[simp] theorem startOutput_marked (s : State) : (startOutput s).marked = s.marked := rfl
@[simp] theorem startOutput_codesLegal (s : State) : (startOutput s).codesLegal = s.codesLegal := rfl

/-- When the host may suspend (R136), spelled out. -/
theorem mayHonourWait_iff (c : ActuatorCall) (s : State) :
    mayHonourWait c s = true ↔ c = .waitForInterrupt ∧ pressInProgress s = false := by
  simp [mayHonourWait]

/-- One operation more in front of a list. -/
theorem operationsFrom_cons {i : Instr} {is : List Instr} {s t : State} (h : exec i s = .next t) :
    operationsFrom (i :: is) s = operationsFrom is t := by
  simp only [operationsFrom, h]

/-- An operation performed normally takes its effect from an empty output list. -/
theorem operate_of_ready {s : State} (f : State → State) (h : Ready s) : operate f s = .next (f (startOutput s)) := by
  obtain ⟨hm, hl, hc⟩ := h
  simp [operate, hm, hl, hc]

/-- Everything `operate` can answer. -/
theorem operate_cases (f : State → State) (s : State) :
    (s.marked = true ∧ operate f s = .next (startOutput s)) ∨
    (s.marked = false ∧ s.cfg.legal = false ∧ operate f s = .refused .badConfig) ∨
    (s.marked = false ∧ s.cfg.legal = true ∧ s.codesLegal = false ∧ operate f s = .fault .badStateCode) ∨
    (Ready s ∧ operate f s = .next (f (startOutput s))) := by
  cases hm : s.marked <;> cases hl : s.cfg.legal <;> cases hc : s.codesLegal <;> simp [operate, Ready, hm, hl, hc]

/-- What a next state of `operate` is. -/
theorem operate_next {f : State → State} {s t : State} (h : operate f s = .next t) :
    (s.marked = true ∧ t = startOutput s) ∨ (Ready s ∧ t = f (startOutput s)) := by
  rcases operate_cases f s with ⟨hm, e⟩ | ⟨-, -, e⟩ | ⟨-, -, -, e⟩ | ⟨hr, e⟩ <;> rw [e] at h <;> cases h
  · exact .inl ⟨hm, rfl⟩
  · exact .inr ⟨hr, rfl⟩

/-- The effect of each operation, as one function. -/
def effectOf (i : Instr) : State → State :=
  match i with
  | .sample p => sampleEffect p
  | .poll v => pollEffect v
  | .step => stepEffect

/-- `exec` is `operate` with the instruction's effect. -/
theorem exec_eq (i : Instr) (s : State) : exec i s = operate (effectOf i) s := by
  cases i <;> rfl

/-- RESET under a legal configuration, from any state: every register at its reset value (R41, R142). -/
theorem resetBlock_of_legal {s : State} (h : s.cfg.legal = true) :
    resetBlock s = .next { State.resetWith s.cfg with input := s.input } := by
  simp only [resetBlock, h, if_true]
  rfl

/-- RESET under an illegal configuration (R141). -/
theorem resetBlock_of_illegal {s : State} (h : s.cfg.legal = false) : resetBlock s = .refused .badConfig := by
  simp [resetBlock, h]

/-- A step whose list is empty. -/
theorem step_of_empty {s : State} (h : s.input = []) : step s = .next s := by
  simp [step, takeInput, h]

/-- A step with an input, unfolded once. -/
theorem step_of_input {s : State} {op : Input} {rest : List Input} (h : s.input = op :: rest) :
    step s = recordOutcome { s with input := rest } (perform op { s with input := rest }) := by
  simp [step, takeInput, h]

/-- What one presented input does to the state, told of the state `s` it is taken from: the one inversion of a step. -/
inductive Took (s : State) : Input → State → Prop where
  /-- RESET performed. -/
  | reset (h : s.cfg.legal = true) : Took s .reset { State.resetWith s.cfg with input := s.input }
  /-- RESET refused for the configuration. -/
  | resetRefused (h : s.cfg.legal = false) : Took s .reset (markRefused s)
  /-- A word under a mark. -/
  | idle (w : CommandWord) (h : s.marked = true) : Took s (.command w) (startOutput s)
  /-- A reserved word. -/
  | reserved (w : CommandWord) (h : s.marked = false) (hd : decode w = .error .reservedEncoding) :
      Took s (.command w) (markRefused s)
  /-- An operation refused for the configuration. -/
  | badConfig (w : CommandWord) (i : Instr) (h : s.marked = false) (hd : decode w = .ok i)
      (hl : s.cfg.legal = false) : Took s (.command w) (markRefused s)
  /-- An operation on an illegal code. -/
  | badCode (w : CommandWord) (i : Instr) (h : s.marked = false) (hd : decode w = .ok i) (hl : s.cfg.legal = true)
      (hc : s.codesLegal = false) : Took s (.command w) (markFaulted s)
  /-- An operation performed. -/
  | performed (w : CommandWord) (i : Instr) (hr : Ready s) (hd : decode w = .ok i) :
      Took s (.command w) (effectOf i (startOutput s))

/-- An input is always taken to one of the cases of `Took`. -/
theorem perform_took (s : State) (op : Input) : ∃ t, recordOutcome s (perform op s) = .next t ∧ Took s op t := by
  cases op with
  | reset =>
    cases h : s.cfg.legal with
    | true => exact ⟨_, by rw [perform, resetBlock_of_legal h]; rfl, .reset h⟩
    | false => exact ⟨_, by rw [perform, resetBlock_of_illegal h]; rfl, .resetRefused h⟩
  | command w =>
    simp only [perform, presentWord]
    by_cases hm : s.marked = true
    · exact ⟨_, by rw [if_pos hm]; rfl, .idle w hm⟩
    · rw [if_neg hm]
      have hm' : s.marked = false := by simpa using hm
      cases hd : decode w with
      | error r => cases r; exact ⟨_, rfl, .reserved w hm' hd⟩
      | ok i =>
        simp only [exec_eq]
        rcases operate_cases (effectOf i) s with ⟨h, -⟩ | ⟨-, hl, e⟩ | ⟨-, hl, hc, e⟩ | ⟨hr, e⟩
        · exact absurd h hm
        · exact ⟨_, by rw [e]; rfl, .badConfig w i hm' hd hl⟩
        · exact ⟨_, by rw [e]; rfl, .badCode w i hm' hd hl hc⟩
        · exact ⟨_, by rw [e]; rfl, .performed w i hr hd⟩

/-- Everything a step can do: nothing presented, or one input taken. -/
theorem step_cases {s t : State} (h : step s = .next t) :
    (s.input = [] ∧ t = s) ∨
    ∃ op rest, s.input = op :: rest ∧ Took { s with input := rest } op t := by
  cases hin : s.input with
  | nil => rw [step_of_empty hin] at h; cases h; exact .inl ⟨rfl, rfl⟩
  | cons op rest =>
    obtain ⟨u, hu, htook⟩ := perform_took { s with input := rest } op
    rw [step_of_input hin, hu] at h
    cases h
    exact .inr ⟨op, rest, rfl, htook⟩

end Sys2Proof.Machine
end

