-- ==== Sys2Proof/Laws/Meanings.lean ====
section
/-!
SUPPORT. Everything the effect of SAMPLE and the two slots of STEP can do, each said once as a case list.
-/

namespace Sys2Proof.Machine

/-- A shifted register fits N bits. -/
theorem shiftIn_lt (c : Cfg) (n : Nat) (b : Bool) : shiftIn c n b < 2 ^ c.n :=
  Nat.mod_lt _ (Nat.two_pow_pos _)

/-- The newest sample stands in bit 0 (R76). -/
theorem shiftIn_testBit_zero {c : Cfg} (h : 1 ≤ c.n) (n : Nat) (b : Bool) : (shiftIn c n b).testBit 0 = b := by
  have : 0 < c.n := h
  simp only [shiftIn, Nat.testBit_mod_two_pow, this, decide_true, Bool.true_and]
  cases b <;> simp [Nat.testBit_zero]

/-- Every other bit is the one that stood below it, up to the width (R76). -/
theorem shiftIn_testBit_succ (c : Cfg) (n k : Nat) (b : Bool) :
    (shiftIn c n b).testBit (k + 1) = (decide (k + 1 < c.n) && n.testBit k) := by
  simp only [shiftIn, Nat.testBit_mod_two_pow]
  congr 1
  rw [Nat.testBit_succ]
  congr 1
  cases b
  · simp
  · simp only [Bool.toNat_true]
    omega

/-- Everything SAMPLE's effect can do (R77 to R82), on the shifted register. -/
theorem sampleEffect_cases (p : PinLevel) (s : State) {b : Bool} {sh : Nat} (hb : b = pressedSample s.cfg p)
    (hsh : sh = shiftIn s.cfg s.btnShift b) :
    (s.btnPressed = false ∧ sh = allPressed s.cfg ∧ sampleEffect p s =
      { s with btnShift := sh, btnPressed := true, btnRun := 0, btnRuns := 0, btnLong := false }) ∨
    (s.btnPressed = false ∧ sh ≠ allPressed s.cfg ∧ sampleEffect p s = { s with btnShift := sh }) ∨
    (s.btnPressed = true ∧ sh = 0 ∧ sampleEffect p s =
      { s with
        btnShift := sh, btnPressed := false, btnRun := 0, btnRuns := 0, btnLong := false
        evtClick := s.evtClick || !s.btnLong }) ∨
    (s.btnPressed = true ∧ sh ≠ 0 ∧ s.btnLong = true ∧ sampleEffect p s = { s with btnShift := sh }) ∨
    (s.btnPressed = true ∧ sh ≠ 0 ∧ s.btnLong = false ∧ b = false ∧
      sampleEffect p s = { s with btnShift := sh, btnRun := 0 }) ∨
    (s.btnPressed = true ∧ sh ≠ 0 ∧ s.btnLong = false ∧ b = true ∧ s.btnRun + 1 ≠ s.cfg.l ∧
      sampleEffect p s = { s with btnShift := sh, btnRun := s.btnRun + 1 }) ∨
    (s.btnPressed = true ∧ sh ≠ 0 ∧ s.btnLong = false ∧ b = true ∧ s.btnRun + 1 = s.cfg.l ∧
      s.btnRuns + 1 ≠ s.cfg.m ∧
      sampleEffect p s = { s with btnShift := sh, btnRun := 0, btnRuns := s.btnRuns + 1 }) ∨
    (s.btnPressed = true ∧ sh ≠ 0 ∧ s.btnLong = false ∧ b = true ∧ s.btnRun + 1 = s.cfg.l ∧
      s.btnRuns + 1 = s.cfg.m ∧
      sampleEffect p s =
        { s with btnShift := sh, btnRun := 0, btnRuns := s.btnRuns + 1, btnLong := true, evtLong := true }) := by
  subst hb hsh
  simp only [sampleEffect]
  generalize shiftIn s.cfg s.btnShift (pressedSample s.cfg p) = sh
  generalize pressedSample s.cfg p = b
  obtain ⟨cfg, _, _, _, _, _, _, _, _, pressed, run, runs, long, _, _, _, _⟩ := s
  cases pressed <;> simp only [classify, Bool.false_eq_true, if_false, if_true]
  · by_cases h : sh = allPressed cfg <;> simp [h, recognisePress, clearCounters]
  · by_cases h : sh = 0
    · cases long <;> simp [h, recogniseRelease, clearCounters, raiseEvent]
    · cases long <;> cases b <;> simp [h, breakRun, countPressed, completeRun]
      by_cases hl : run + 1 = cfg.l <;> by_cases hm : runs + 1 = cfg.m <;> simp [hl, hm, raiseEvent]

/-- The legal codes of `conf0` (R22). -/
theorem conf0_of_legal : ∀ k : BitVec 3, 1 ≤ k.toNat → k.toNat ≤ 4 → k = 1 ∨ k = 2 ∨ k = 3 ∨ k = 4 := by decide

/-- The codes of a 2-bit register. -/
theorem code2_cases : ∀ k : BitVec 2, k = 0 ∨ k = 1 ∨ k = 2 ∨ k = 3 := by decide

/-- Everything slot 0 can do from a legal `conf0` (R97 to R103), with its effect written out. -/
theorem slotZero_cases (s : State) (h1 : 1 ≤ s.conf0.toNat) (h4 : s.conf0.toNat ≤ 4) :
    (s.conf0 = 1 ∧ s.evtClick = true ∧ s.hist = 2 ∧ slotZero s =
      { s with conf0 := 3, conf1 := 2, out := s.out ++ [.startCar, .headlightsOff, .taillightsDim] }) ∨
    (s.conf0 = 1 ∧ s.evtClick = true ∧ s.hist ≠ 2 ∧ slotZero s =
      { s with conf0 := 2, conf1 := 2, hist := 1, out := s.out ++ [.startCar, .headlightsOn, .taillightsDim] }) ∨
    (s.conf0 = 1 ∧ s.evtClick = false ∧ slotZero s = emit .waitForInterrupt s) ∨
    (Running s ∧ s.evtLong = true ∧ slotZero s =
      { s with conf0 := 1, conf1 := 0, hist := if s.conf0 = 2 then 1 else 2, out := s.out ++ [.stopCar] }) ∨
    (Running s ∧ s.evtLong = false ∧ s.evtError = true ∧ slotZero s =
      { s with
        conf0 := 4, conf1 := 0, hist := if s.conf0 = 2 then 1 else 2, out := s.out ++ [.stopCar, .handleError] }) ∨
    (s.conf0 = 2 ∧ s.evtLong = false ∧ s.evtError = false ∧ s.evtClick = true ∧ slotZero s =
      { s with conf0 := 3, hist := 2, out := s.out ++ [.waitForInterrupt, .headlightsOff] }) ∨
    (s.conf0 = 3 ∧ s.evtLong = false ∧ s.evtError = false ∧ s.evtClick = true ∧ slotZero s =
      { s with conf0 := 2, hist := 1, out := s.out ++ [.waitForInterrupt, .headlightsOn] }) ∨
    (Running s ∧ s.evtLong = false ∧ s.evtError = false ∧ s.evtClick = false ∧
      slotZero s = emit .waitForInterrupt s) ∨
    (s.conf0 = 4 ∧ slotZero s = { s with conf0 := 1 }) := by
  obtain ⟨cfg, conf0, conf1, hist, e, c, l, _, _, _, _, _, _, _, _, _, out⟩ := s
  rcases conf0_of_legal conf0 h1 h4 with rfl | rfl | rfl | rfl <;> cases c <;> cases l <;> cases e <;>
    rcases code2_cases hist with rfl | rfl | rfl | rfl <;>
    simp [Running, slotZero, reactIdle, reactRunning, reactError, exitError, conf0Idle, conf0HeadlightsOn, conf0HeadlightsOff,
      conf0Error, enterRunning, enterHeadlightsRegion, enterTaillightsRegion, enterHeadlight, enterTaillight,
      exitRunning, exitHeadlight, exitTaillight, enterIdle, enterError, toggleHeadlights, emit, histOff, histOn,
      conf1Unset, conf1BrakesOff, Headlights.conf0Code, Headlights.histCode, Headlights.entryCall,
      Taillights.conf1Code, Taillights.entryCall]

/-- Everything slot 1 can do (R104 to R106), with its effect written out. -/
theorem slotOne_cases (s : State) :
    (s.conf1 = 2 ∧ s.brakesOn = true ∧ slotOne s = { s with conf1 := 1, out := s.out ++ [.taillightsBright] }) ∨
    (s.conf1 = 1 ∧ s.brakesOn = false ∧ slotOne s = { s with conf1 := 2, out := s.out ++ [.taillightsDim] }) ∨
    (¬(s.conf1 = 2 ∧ s.brakesOn = true) ∧ ¬(s.conf1 = 1 ∧ s.brakesOn = false) ∧ slotOne s = s) := by
  obtain ⟨_, _, conf1, _, _, _, _, b, _, _, _, _, _, _, _, _, _⟩ := s
  rcases code2_cases conf1 with rfl | rfl | rfl | rfl <;> cases b <;>
    simp [slotOne, exitTaillight, enterTaillight, emit, conf1BrakesOff, conf1BrakesOn, Taillights.conf1Code,
      Taillights.entryCall]

/-- The move slot 0 makes from `s`: `conf0`, `conf1`, `hist` after it and what it emits (the cases of `slotZero_cases`). -/
inductive SlotZeroMove (s : State) : BitVec 3 → BitVec 2 → BitVec 2 → List ActuatorCall → Prop where
  | enterOff (h0 : s.conf0 = 1) (hc : s.evtClick = true) (hh : s.hist = 2) :
      SlotZeroMove s 3 2 2 [.startCar, .headlightsOff, .taillightsDim]
  | enterOn (h0 : s.conf0 = 1) (hc : s.evtClick = true) (hh : s.hist ≠ 2) :
      SlotZeroMove s 2 2 1 [.startCar, .headlightsOn, .taillightsDim]
  | waitIdle (h0 : s.conf0 = 1) (hc : s.evtClick = false) : SlotZeroMove s 1 s.conf1 s.hist [.waitForInterrupt]
  | stopOn (h0 : s.conf0 = 2) (hl : s.evtLong = true) : SlotZeroMove s 1 0 1 [.stopCar]
  | stopOff (h0 : s.conf0 = 3) (hl : s.evtLong = true) : SlotZeroMove s 1 0 2 [.stopCar]
  | errorOn (h0 : s.conf0 = 2) (hl : s.evtLong = false) (he : s.evtError = true) :
      SlotZeroMove s 4 0 1 [.stopCar, .handleError]
  | errorOff (h0 : s.conf0 = 3) (hl : s.evtLong = false) (he : s.evtError = true) :
      SlotZeroMove s 4 0 2 [.stopCar, .handleError]
  | toggleOff (h0 : s.conf0 = 2) (hl : s.evtLong = false) (he : s.evtError = false) (hc : s.evtClick = true) :
      SlotZeroMove s 3 s.conf1 2 [.waitForInterrupt, .headlightsOff]
  | toggleOn (h0 : s.conf0 = 3) (hl : s.evtLong = false) (he : s.evtError = false) (hc : s.evtClick = true) :
      SlotZeroMove s 2 s.conf1 1 [.waitForInterrupt, .headlightsOn]
  | waitOn (h0 : s.conf0 = 2) (hl : s.evtLong = false) (he : s.evtError = false) (hc : s.evtClick = false) :
      SlotZeroMove s 2 s.conf1 s.hist [.waitForInterrupt]
  | waitOff (h0 : s.conf0 = 3) (hl : s.evtLong = false) (he : s.evtError = false) (hc : s.evtClick = false) :
      SlotZeroMove s 3 s.conf1 s.hist [.waitForInterrupt]
  | recover (h0 : s.conf0 = 4) : SlotZeroMove s 1 s.conf1 s.hist []

/-- The move slot 1 makes from a value of `conf1` under a brakes level. -/
inductive SlotOneMove : BitVec 2 → Bool → BitVec 2 → List ActuatorCall → Prop where
  | brighten : SlotOneMove 2 true 1 [.taillightsBright]
  | dim : SlotOneMove 1 false 2 [.taillightsDim]
  | stayOff : SlotOneMove 2 false 2 []
  | stayOn : SlotOneMove 1 true 1 []
  | unset (b : Bool) : SlotOneMove 0 b 0 []
  | illegal (b : Bool) : SlotOneMove 3 b 3 []

/-- The move of slot 1 as a function of what it reads (R120). -/
theorem SlotOneMove.values {a c : BitVec 2} {b : Bool} {o : List ActuatorCall} (h : SlotOneMove a b c o) :
    c = (if a = 2 ∧ b = true then 1 else if a = 1 ∧ b = false then 2 else a) ∧
    o = (if a = 2 ∧ b = true then [.taillightsBright] else if a = 1 ∧ b = false then [.taillightsDim] else []) := by
  cases h <;> simp

/-- Slot 0's effect is one of its moves. -/
theorem slotZero_move (s : State) (h1 : 1 ≤ s.conf0.toNat) (h4 : s.conf0.toNat ≤ 4) :
    ∃ c0 c1 h o, SlotZeroMove s c0 c1 h o ∧
      slotZero s = { s with conf0 := c0, conf1 := c1, hist := h, out := s.out ++ o } := by
  rcases slotZero_cases s h1 h4 with ⟨h0, hc, hh, e⟩ | ⟨h0, hc, hh, e⟩ | ⟨h0, hc, e⟩ | ⟨h0, hl, e⟩ | ⟨h0, hl, he, e⟩ |
    ⟨h0, hl, he, hc, e⟩ | ⟨h0, hl, he, hc, e⟩ | ⟨h0, hl, he, hc, e⟩ | ⟨h0, e⟩
  · exact ⟨_, _, _, _, .enterOff h0 hc hh, by rw [e, hh]⟩
  · exact ⟨_, _, _, _, .enterOn h0 hc hh, e⟩
  · exact ⟨_, _, _, _, .waitIdle h0 hc, by rw [e, ← h0]; rfl⟩
  · rcases h0 with h0 | h0
    · exact ⟨_, _, _, _, .stopOn h0 hl, by rw [e, if_pos h0]⟩
    · exact ⟨_, _, _, _, .stopOff h0 hl, by rw [e, if_neg (by rw [h0]; decide)]⟩
  · rcases h0 with h0 | h0
    · exact ⟨_, _, _, _, .errorOn h0 hl he, by rw [e, if_pos h0]⟩
    · exact ⟨_, _, _, _, .errorOff h0 hl he, by rw [e, if_neg (by rw [h0]; decide)]⟩
  · exact ⟨_, _, _, _, .toggleOff h0 hl he hc, e⟩
  · exact ⟨_, _, _, _, .toggleOn h0 hl he hc, e⟩
  · rcases h0 with h0 | h0
    · exact ⟨_, _, _, _, .waitOn h0 hl he hc, by rw [e, ← h0]; rfl⟩
    · exact ⟨_, _, _, _, .waitOff h0 hl he hc, by rw [e, ← h0]; rfl⟩
  · exact ⟨_, _, _, _, .recover h0, by rw [e, List.append_nil]⟩

/-- Slot 1's effect is one of its moves. -/
theorem slotOne_move (s : State) :
    ∃ c1 o, SlotOneMove s.conf1 s.brakesOn c1 o ∧ slotOne s = { s with conf1 := c1, out := s.out ++ o } := by
  obtain ⟨cfg, conf0, conf1, hist, e, c, l, b, sh, pr, rn, rns, lg, rf, ft, inp, out⟩ := s
  rcases code2_cases conf1 with rfl | rfl | rfl | rfl <;> cases b
  · exact ⟨_, _, .unset false, by simp [slotOne, conf1BrakesOff, conf1BrakesOn]⟩
  · exact ⟨_, _, .unset true, by simp [slotOne, conf1BrakesOff, conf1BrakesOn]⟩
  · exact ⟨_, _, .dim, rfl⟩
  · exact ⟨_, _, .stayOn, by simp [slotOne, conf1BrakesOff, conf1BrakesOn]⟩
  · exact ⟨_, _, .stayOff, by simp [slotOne, conf1BrakesOff]⟩
  · exact ⟨_, _, .brighten, rfl⟩
  · exact ⟨_, _, .illegal false, by simp [slotOne, conf1BrakesOff, conf1BrakesOn]⟩
  · exact ⟨_, _, .illegal true, by simp [slotOne, conf1BrakesOff, conf1BrakesOn]⟩

/-- Everything STEP can do: one move of each slot, then the clear (R95, R96, R107). -/
theorem stepEffect_move (s : State) (h1 : 1 ≤ s.conf0.toNat) (h4 : s.conf0.toNat ≤ 4) :
    ∃ c0 c1 h o c1' o', SlotZeroMove s c0 c1 h o ∧ SlotOneMove c1 s.brakesOn c1' o' ∧
      stepEffect s =
        { s with
          conf0 := c0, conf1 := c1', hist := h, out := s.out ++ o ++ o'
          evtError := false, evtClick := false, evtLong := false } := by
  obtain ⟨c0, c1, h, o, m0, e0⟩ := slotZero_move s h1 h4
  obtain ⟨c1', o', m1, e1⟩ := slotOne_move (slotZero s)
  refine ⟨c0, c1, h, o, c1', o', m0, by rw [e0] at m1; exact m1, ?_⟩
  rw [stepEffect, e1, e0]
  rfl

/-- What STEP never writes (R94, R95): everything but `conf0`, `conf1`, `hist`, the in-events and the output. -/
theorem stepEffect_rest (s : State) (h1 : 1 ≤ s.conf0.toNat) (h4 : s.conf0.toNat ≤ 4) :
    (stepEffect s).cfg = s.cfg ∧ (stepEffect s).brakesOn = s.brakesOn ∧ (stepEffect s).btnShift = s.btnShift ∧
    (stepEffect s).btnPressed = s.btnPressed ∧ (stepEffect s).btnRun = s.btnRun ∧
    (stepEffect s).btnRuns = s.btnRuns ∧ (stepEffect s).btnLong = s.btnLong ∧ (stepEffect s).refused = s.refused ∧
    (stepEffect s).faulted = s.faulted ∧ (stepEffect s).input = s.input := by
  obtain ⟨c0, c1, h, o, c1', o', -, -, e⟩ := stepEffect_move s h1 h4
  rw [e]
  exact ⟨rfl, rfl, rfl, rfl, rfl, rfl, rfl, rfl, rfl, rfl⟩

/-- POLL's effect in one record (R88 to R91). -/
theorem pollEffect_eq (v : StatusByte) (s : State) :
    pollEffect v s =
      { s with
        evtError := s.evtError || v.getLsbD s.cfg.errorBit
        brakesOn := !v.getLsbD s.cfg.awakeBit } := by
  cases h : v.getLsbD s.cfg.errorBit <;> simp [pollEffect, errorFlag, awakeFlag, writeBrakes, raiseEvent, h]

end Sys2Proof.Machine
end

