-- ==== Sys2Proof/Laws/PerInstr.lean ====
section
/-!
SUPPORT. A fact about every operation as syntax, one lemma per constructor: the word that encodes it is a legal command
word by the match and mask of 30_encoding.md R66.
-/

namespace Sys2Proof.Laws.EncodesLegalWord

/-- The encoding of `i` is a legal word (R63, R66). -/
def Statement (i : Instr) : Prop := legalWord (encode i) = true

theorem sample (p : PinLevel) : Statement (.sample p) := by
  unfold Statement
  revert p
  decide

theorem poll (s : StatusByte) : Statement (.poll s) := by
  unfold Statement
  revert s
  decide

theorem step : Statement .step := by
  unfold Statement
  decide

end Sys2Proof.Laws.EncodesLegalWord
end

