-- ==== Sys2Proof/Tests/Slice0.lean ====
section
/-!
SUPPORT. Small tests of one operation each, with results taken from spec/95_test_vectors.md (named by its vector ids), and
one witness per statement showing that its hypotheses can be met, clause by clause.
-/

namespace Sys2Proof.Tests

open Sys2Proof.Machine

/-! ## Helpers -/

/-- The state a meaning goes on in. -/
def after (i : Instr) (s : State) : Option State := nextOf (exec i s)

/-- Running, Headlights On, Brakes_Off, in the configuration of R11. -/
def runOn : State := { State.reset with conf0 := 2, conf1 := 2, hist := 1 }

/-- Running, Headlights Off, Brakes_On. -/
def runOff : State := { State.reset with conf0 := 3, conf1 := 1, hist := 2 }

/-- Error, as an error leaves it. -/
def inError : State := { State.reset with conf0 := 4, hist := 2 }

/-- A button held, press just recognised. -/
def held : State := { State.reset with btnShift := 7, btnPressed := true }

/-- A button held past the long-press threshold. -/
def latched : State := { held with btnRuns := 2, btnLong := true }

/-- A button held, one pressed sample short of the long-press. -/
def nearlyLatched : State := { held with btnRun := 3, btnRuns := 1 }

/-- A state that has one input. -/
def given (op : Input) (s : State) : State := { s with input := [op] }

/-! ## Well-formedness: an ill-formed term for each check (R8, R9, R63) -/

theorem test_cfg_example_legal : Cfg.exampleValues.legal = true := by decide
theorem test_cfg_smallest_legal : ({ n := 1, l := 2, m := 1, pressLevel := 0, awakeBit := 0, errorBit := 7 } : Cfg).legal = true := by decide
theorem test_cfg_n_zero : { Cfg.exampleValues with n := 0 }.legal = false := by decide
theorem test_cfg_l_not_above_n : { Cfg.exampleValues with l := 3 }.legal = false := by decide
theorem test_cfg_m_zero : { Cfg.exampleValues with m := 0 }.legal = false := by decide
theorem test_cfg_press_level : { Cfg.exampleValues with pressLevel := 2 }.legal = false := by decide
theorem test_cfg_awake_bit : { Cfg.exampleValues with awakeBit := 8 }.legal = false := by decide
theorem test_cfg_error_bit : { Cfg.exampleValues with errorBit := 8 }.legal = false := by decide
theorem test_cfg_same_bits : { Cfg.exampleValues with errorBit := 6 }.legal = false := by decide
theorem test_word_op_zero : legalWord 0x0000 = false := by decide
theorem test_word_rsv : legalWord 0x4101 = false := by decide
theorem test_word_sample_operand : legalWord 0x4002 = false := by decide
theorem test_word_step_operand : legalWord 0xC001 = false := by decide

/-! ## Decode (vectors D1 to D10) -/

theorem test_decode_sample_0 : decode 0b0100000000000000 = .ok (.sample 0) := rfl
theorem test_decode_sample_1 : decode 0b0100000000000001 = .ok (.sample 1) := rfl
theorem test_decode_sample_reserved : decode 0b0100000000000010 = .error .reservedEncoding := rfl
theorem test_decode_poll_00 : decode 0b1000000000000000 = .ok (.poll 0x00) := rfl
theorem test_decode_poll_ff : decode 0b1000000011111111 = .ok (.poll 0xFF) := rfl
theorem test_decode_step : decode 0b1100000000000000 = .ok .step := rfl
theorem test_decode_step_reserved : decode 0b1100000000000001 = .error .reservedEncoding := rfl
theorem test_decode_op_zero : decode 0x0000 = .error .reservedEncoding := rfl
theorem test_decode_rsv_low : decode 0x4101 = .error .reservedEncoding := rfl
theorem test_decode_rsv_high : decode 0xBF40 = .error .reservedEncoding := rfl
theorem test_encode_click :
    clickInputs Cfg.exampleValues =
      [.command 0x4001, .command 0x4001, .command 0x4001, .command 0x4000, .command 0x4000, .command 0x4000] := by decide
theorem test_encode_cycle : cycleInputs 0x40 = [.command 0x8040, .command 0xC000] := by decide
theorem test_table_word : decodeTableWord 16 0x8040 = some (.poll 0x40) := by decide

/-! ## Codes and registers (R21, R64) -/

theorem test_codes :
    [ActuatorCall.startCar, .stopCar, .headlightsOn, .headlightsOff, .taillightsBright, .taillightsDim, .taillightsOff,
      .waitForInterrupt, .handleError].map ActuatorCall.code = [1, 2, 3, 4, 5, 6, 7, 8, 9] := by decide
theorem test_widths : [Reg.btnShift, .btnRun, .btnRuns].map (·.width Cfg.exampleValues) = [3, 2, 2] := by decide

/-! ## One operation each -/

/-- S1, third sample. -/
theorem test_sample_recognises_press :
    (after (.sample 1) { State.reset with btnShift := 0b011 }).map
      (fun t => (t.btnShift, t.btnPressed, t.evtClick, pressInProgress t)) = some (0b111, true, false, true) := by decide

/-- S5, eleventh sample: run 0, runs 2, latch 1, long raised. -/
theorem test_sample_raises_long :
    (after (.sample 1) { held with btnRun := 3, btnRuns := 1 }).map
      (fun t => (t.btnRun, t.btnRuns, t.btnLong, t.evtLong, t.evtClick)) = some (0, 2, true, true, false) := by decide

/-- P-4: both flags. -/
theorem test_poll_both_flags :
    (after (.poll 0xC0) State.reset).map (fun t => (t.brakesOn, t.evtError)) = some (false, true) := by decide

/-- P-6: POLL never clears the event. -/
theorem test_poll_keeps_error :
    (after (.poll 0x00) { State.reset with evtError := true }).map (fun t => (t.brakesOn, t.evtError)) =
      some (true, true) := by decide

/-- T4: entering Running with brakes on. -/
theorem test_step_enters_running :
    (after .step { State.reset with hist := 1, evtClick := true, brakesOn := true }).map
      (fun t => (t.conf0, t.conf1, t.hist, t.out)) =
      some (2, 1, 1, [.startCar, .headlightsOn, .taillightsDim, .taillightsBright]) := by decide

/-- T8: error wins over click, and slot 1 is Unset. -/
theorem test_step_error_wins :
    (after .step { runOff with conf1 := 2, evtError := true, evtClick := true, brakesOn := true }).map
      (fun t => (t.conf0, t.conf1, t.hist, t.out)) = some (4, 0, 2, [.stopCar, .handleError]) := by decide

/-- T19: an illegal code faults and is marked. -/
theorem test_illegal_code :
    (nextOf (step (given (.command 0xC000) { State.reset with conf0 := 5 }))).map
      (fun t => (t.conf0, t.faulted, t.refused, t.out)) = some (5, true, false, []) := by decide

/-- R-1: RESET from Running with a press half made. -/
theorem test_reset :
    nextOf (step (given .reset
      { runOff with evtError := true, evtClick := true, btnShift := 6, btnPressed := true, brakesOn := true })) =
      some State.reset := by decide

/-- R-2: L = N is refused. -/
theorem test_reset_bad_config :
    (nextOf (step (given .reset { State.reset with cfg := { Cfg.exampleValues with l := 3 } }))).map
      (fun t => (t.refused, t.out)) = some (true, []) := by decide

/-- The first instruction after reset runs. -/
theorem test_first_instruction :
    (nextOf (step (State.reset.withFetchWord 16 0xC000))).map (fun t => (t.out, t.input)) =
      some ([.waitForInterrupt], []) := by decide

/-! ## Witnesses: the hypotheses of each statement can be met -/

theorem witness_DecodeAndEncodeAgree : ∃ (w : CommandWord) (i : Instr), decode w = .ok i := ⟨0x8040, .poll 0x40, rfl⟩

theorem witness_StepRunsTheDecodedOperation : ∃ (s : State) (w : CommandWord) (rest : List Input) (i : Instr),
    s.input = .command w :: rest ∧ s.marked = false ∧ decode w = .ok i :=
  ⟨given (.command 0xC000) State.reset, 0xC000, [], .step, rfl, rfl, rfl⟩

theorem witness_EveryStepTakesOneInput :
    (∃ (s : State) (op : Input) (rest : List Input), s.input = op :: rest) ∧ (∃ s : State, s.input = []) :=
  ⟨⟨given .reset State.reset, .reset, [], rfl⟩, ⟨State.reset, rfl⟩⟩

/-- Each of the four clauses of R63, at 0x0000, 0x4101, 0x4002 and 0xC001. -/
theorem witness_ReservedWordIsRefused :
    (given (.command 0x4101) State.reset).input = [.command 0x4101] ∧ State.reset.marked = false ∧
    (0x0000 : CommandWord).toNat / 2 ^ 14 = 0 ∧ (0x4101 : CommandWord).toNat / 2 ^ 8 % 2 ^ 6 ≠ 0 ∧
    ((0x4002 : CommandWord).toNat / 2 ^ 14 = 1 ∧ (0x4002 : CommandWord).toNat % 2 ^ 8 / 2 ≠ 0) ∧
    ((0xC001 : CommandWord).toNat / 2 ^ 14 = 3 ∧ (0xC001 : CommandWord).toNat % 2 ^ 8 ≠ 0) :=
  ⟨rfl, rfl, by simp, by simp, by simp, by simp⟩

theorem witness_MarkedBlockOnlyResets :
    (∃ (s : State) (w : CommandWord), s.input = [.command w] ∧ s.marked = true) ∧
    (∃ s : State, s.input = [.reset] ∧ s.cfg.legal = true) ∧
    (∃ (s t : State) (w : CommandWord), s.input = [.command w] ∧ step s = .next t ∧ s.refused = true ∧
      s.faulted = true) :=
  ⟨⟨given (.command 0xC000) { State.reset with refused := true }, 0xC000, rfl, rfl⟩,
    ⟨given .reset State.reset, rfl, rfl⟩,
    ⟨given (.command 0xC000) { State.reset with refused := true, faulted := true }, _, 0xC000, rfl, rfl, rfl, rfl⟩⟩

/-- The four illegal codes at the ends of their ranges, and a step from legal codes. -/
theorem witness_IllegalCodeFaults :
    (∀ s ∈ ([{ State.reset with conf0 := 0 }, { State.reset with conf0 := 5 }, { State.reset with conf0 := 7 },
        { State.reset with conf1 := 3 }, { State.reset with hist := 3 }] : List State),
      s.marked = false ∧ s.cfg.legal = true ∧ s.codesLegal = false ∧
      (s.conf0.toNat = 0 ∨ 5 ≤ s.conf0.toNat ∨ s.conf1.toNat = 3 ∨ s.hist.toNat = 3)) ∧
    (∃ (s : State) (w : CommandWord) (i : Instr), s.input = [.command w] ∧ s.marked = false ∧ s.cfg.legal = true ∧ s.codesLegal = false ∧
      decode w = .ok i) ∧
    (∃ s t : State, s.codesLegal = true ∧ step s = .next t) :=
  ⟨by decide, ⟨given (.command 0xC000) { State.reset with conf0 := 5 }, 0xC000, .step, rfl, rfl, rfl, rfl, rfl⟩,
    ⟨State.reset, State.reset, rfl, rfl⟩⟩

theorem witness_IllegalConfigIsRefused :
    (∀ c ∈ ([{ Cfg.exampleValues with n := 0 }, { Cfg.exampleValues with l := 3 }, { Cfg.exampleValues with m := 0 },
        { Cfg.exampleValues with pressLevel := 2 }, { Cfg.exampleValues with awakeBit := 8 },
        { Cfg.exampleValues with errorBit := 8 }, { Cfg.exampleValues with errorBit := 6 }] : List Cfg),
      ({ State.reset with cfg := c } : State).marked = false ∧
      (c.n = 0 ∨ c.l ≤ c.n ∨ c.m = 0 ∨ 1 < c.pressLevel ∨ 7 < c.awakeBit ∨ 7 < c.errorBit ∨ c.awakeBit = c.errorBit)) ∧
    (∃ s : State, s.input = [.reset] ∧ s.cfg.legal = false) :=
  ⟨by decide, ⟨given .reset { State.reset with cfg := { Cfg.exampleValues with m := 0 } }, rfl, rfl⟩⟩

theorem witness_EveryOperationCompletes : Ready State.reset := by decide

theorem witness_ConfigurationIsKept : ∃ s t : State, step s = .next t ∧ s ≠ t :=
  ⟨given (.command 0x8000) State.reset, _, rfl, by decide⟩

/-- A STEP that writes each of `conf0`, `conf1`, `hist` and clears the events; a POLL that writes the level and raises
the error; SAMPLEs that write the button registers and raise click and long-press. -/
theorem witness_EachRegisterHasOneWriter :
    (∃ s t : State, s.input = [.command 0xC000] ∧ step s = .next t ∧ t.conf0 ≠ s.conf0 ∧ t.conf1 ≠ s.conf1 ∧
      t.hist ≠ s.hist ∧ s.evtClick = true ∧ t.evtClick = false) ∧
    (∃ s t : State, s.input = [.command 0x8080] ∧ step s = .next t ∧ t.brakesOn ≠ s.brakesOn ∧ s.evtError = false ∧
      t.evtError = true) ∧
    (∃ s t : State, s.input = [.command 0x4000] ∧ step s = .next t ∧ t.btnShift ≠ s.btnShift ∧
      t.btnPressed ≠ s.btnPressed ∧ s.evtClick = false ∧ t.evtClick = true) ∧
    (∃ s t : State, s.input = [.command 0x4001] ∧ step s = .next t ∧ t.btnRun ≠ s.btnRun ∧ t.btnRuns ≠ s.btnRuns ∧
      t.btnLong ≠ s.btnLong ∧ s.evtLong = false ∧ t.evtLong = true) :=
  ⟨⟨given (.command 0xC000) { State.reset with evtClick := true }, _, rfl, rfl, by decide, by decide, by decide, rfl, rfl⟩,
    ⟨given (.command 0x8080) State.reset, _, rfl, rfl, by decide, rfl, rfl⟩,
    ⟨given (.command 0x4000) { held with btnShift := 4 }, _, rfl, rfl, by decide, by decide, rfl, rfl⟩,
    ⟨given (.command 0x4001) { held with btnRun := 3, btnRuns := 1 }, _, rfl, rfl, by decide, by decide, by decide, rfl,
      rfl⟩⟩

theorem witness_ResetWritesEveryRegister :
    ∃ s : State, s.input = [.reset] ∧ s.cfg.legal = true ∧ s.marked = true :=
  ⟨given .reset { runOn with faulted := true }, rfl, rfl, rfl⟩

theorem witness_NothingSurvivesReset :
    (∃ s u : State, s.input = [.reset] ∧ u.input = [.reset] ∧ s.cfg = u.cfg ∧ s.cfg.legal = true ∧ s ≠ u) ∧
    (∃ s t : State, ¬Running s ∧ s.hist = 0 ∧ step s = .next t ∧ t.conf0 = 2) ∧
    (∃ s : State, Ready s ∧ s.conf0 = 1 ∧ s.hist = 0 ∧ s.evtClick = true) :=
  ⟨⟨given .reset runOn, given .reset runOff, rfl, rfl, rfl, rfl, by decide⟩,
    ⟨given (.command 0xC000) { State.reset with evtClick := true }, _, by decide, rfl, rfl, rfl⟩,
    ⟨{ State.reset with evtClick := true }, by decide⟩⟩

theorem witness_InitialModeAfterReset : ∃ c : Cfg, c.legal = true := ⟨Cfg.exampleValues, rfl⟩

theorem witness_SampleShiftsTheRegister : Ready held ∧ 1 + 1 < held.cfg.n := by decide

theorem witness_PressIsRecognised :
    (Ready { State.reset with btnShift := 3 } ∧ State.reset.btnPressed = false ∧
      shiftIn Cfg.exampleValues 3 (pressedSample Cfg.exampleValues 1) = 2 ^ 3 - 1) ∧
    (Ready State.reset ∧ shiftIn Cfg.exampleValues 0 (pressedSample Cfg.exampleValues 1) ≠ 2 ^ 3 - 1) ∧
    (Ready held ∧ held.btnPressed = true ∧
      shiftIn Cfg.exampleValues held.btnShift (pressedSample Cfg.exampleValues 1) = 2 ^ 3 - 1) := by decide

theorem witness_PressedSamplesAreCounted :
    Ready held ∧ held.btnPressed = true ∧ held.btnLong = false ∧ (1 : PinLevel).toNat = held.cfg.pressLevel ∧
    held.btnRun + 1 ≠ held.cfg.l ∧
    { held with btnRun := 3 }.btnRun + 1 = held.cfg.l ∧ { held with btnRun := 3 }.btnRuns + 1 ≠ held.cfg.m ∧
    Ready { held with btnRun := 3 } := by decide

theorem witness_LongPressIsLatchedOnce :
    (∃ s t : State, Ready s ∧ s.btnPressed = true ∧ s.btnLong = false ∧ (1 : PinLevel).toNat = s.cfg.pressLevel ∧
      s.btnRun + 1 = s.cfg.l ∧ s.btnRuns + 1 = s.cfg.m ∧ exec (.sample 1) s = .next t ∧ t.evtLong ≠ s.evtLong) ∧
    (Ready latched ∧ latched.btnPressed = true ∧ latched.btnLong = true) :=
  ⟨⟨{ held with btnRun := 3, btnRuns := 1 }, _, by decide, rfl, rfl, rfl, rfl, rfl, rfl, by decide⟩, by decide⟩

theorem witness_ReleaseRaisesClickUnlessLatched :
    (Ready { held with btnShift := 4 } ∧ held.btnPressed = true ∧
      shiftIn Cfg.exampleValues 4 (pressedSample Cfg.exampleValues 0) = 0) ∧
    (Ready { latched with btnShift := 4 } ∧ latched.btnPressed = true) := by decide

theorem witness_BounceBreaksTheRun :
    Ready held ∧ held.btnPressed = true ∧ held.btnLong = false ∧ (0 : PinLevel).toNat ≠ held.cfg.pressLevel ∧
    shiftIn held.cfg held.btnShift false ≠ 0 := by decide

theorem witness_LatchedPressOnlyShifts :
    (Ready latched ∧ ButtonInv latched ∧ DebounceInv latched ∧ latched.btnLong = true ∧
      shiftIn latched.cfg latched.btnShift (pressedSample latched.cfg 0) ≠ 0) ∧
    (Ready { latched with btnShift := 4 } ∧ ButtonInv { latched with btnShift := 4 } ∧
      DebounceInv { latched with btnShift := 4 } ∧
      shiftIn latched.cfg 4 (pressedSample latched.cfg 0) = 0) := by decide

theorem witness_SampleFrame : ∃ (s t : State) (p : PinLevel), exec (.sample p) s = .next t ∧ s.evtClick = true ∧ s.evtLong = true :=
  ⟨{ held with evtClick := true, evtLong := true }, _, 1, rfl, rfl, rfl⟩

theorem witness_SampleRaisesAtMostOneEvent :
    Ready { held with btnShift := 4 } ∧ held.evtClick = false ∧ held.evtLong = false := by decide

theorem witness_IdentificationRunRaisesNothing :
    Cfg.exampleValues.legal = true ∧ ([1, 1, 1, 0, 0] : List PinLevel).length < 2 * Cfg.exampleValues.n := by decide

/-- A press one run short of the latch, then a list that latches it and releases it. -/
theorem witness_OneEventPerPressRelease_latched :
    Ready nearlyLatched ∧ ButtonInv nearlyLatched ∧ nearlyLatched.btnPressed = true ∧ nearlyLatched.btnLong = false ∧
    (∀ k < ([1, 0, 0, 0] : List PinLevel).length,
      ∃ t, samplesFrom (([1, 0, 0, 0] : List PinLevel).take k) nearlyLatched = some t ∧ t.btnPressed = true) ∧
    (samplesFrom [1] nearlyLatched).map (·.btnLong) = some true ∧
    (samplesFrom [1, 0, 0, 0] nearlyLatched).map (fun t => (t.btnPressed, t.evtLong, t.evtClick)) =
      some (false, true, false) :=
  ⟨by decide, by decide, rfl, rfl, fun k hk => Option.map_eq_some_iff.mp
    ((by decide : ∀ k < 4, (samplesFrom (([1, 0, 0, 0] : List PinLevel).take k) nearlyLatched).map (·.btnPressed) =
      some true) k hk), by decide, by decide⟩

/-- A list that ends with the release, at which the click is raised. -/
theorem witness_OneEventPerPressRelease :
    Ready held ∧ ButtonInv held ∧ held.btnPressed = true ∧ held.btnLong = false ∧
    (∀ k < ([0, 0, 0] : List PinLevel).length,
      ∃ t, samplesFrom (([0, 0, 0] : List PinLevel).take k) held = some t ∧ t.btnPressed = true) ∧
    (samplesFrom [0, 0, 0] held).map (fun t => (t.btnPressed, t.evtClick)) = some (false, true) :=
  ⟨by decide, by decide, rfl, rfl, fun k hk => Option.map_eq_some_iff.mp
    ((by decide : ∀ k < 3, (samplesFrom (([0, 0, 0] : List PinLevel).take k) held).map (·.btnPressed) = some true) k hk),
    by decide⟩

/-- k = N + L*M, where the long-press begins, and j at its last value, the release. -/
theorem witness_CleanPressThresholds_long :
    Ready State.reset ∧ State.reset.btnPressed = false ∧ State.reset.btnShift = 0 ∧
    State.reset.cfg.n + State.reset.cfg.l * State.reset.cfg.m = 11 ∧ 14 ≤ 11 + State.reset.cfg.n := by decide

/-- k = N, at the boundary of the first two cases of R85, and j at its last value. -/
theorem witness_CleanPressThresholds :
    Ready State.reset ∧ State.reset.btnPressed = false ∧ State.reset.btnShift = 0 ∧ State.reset.evtClick = false ∧
    State.reset.evtLong = false ∧ 6 ≤ 3 + State.reset.cfg.n := by decide

theorem witness_PressInProgressFollowsTheRegister :
    (Ready held ∧ BlockInv held ∧ (1 : PinLevel).toNat = held.cfg.pressLevel) ∧
    (Ready State.reset ∧ BlockInv State.reset) :=
  ⟨⟨by decide, by decide, by decide⟩, by decide, by decide⟩

theorem witness_PollResult : Ready runOn := by decide

/-- Both values of the awake flag in the last POLL, 0x00 and 0x40. -/
theorem witness_BrakesFollowTheLastPoll :
    Ready runOn ∧ RegionInv runOn ∧ (0x00 : StatusByte).getLsbD runOn.cfg.awakeBit = false ∧
    (0x40 : StatusByte).getLsbD runOn.cfg.awakeBit = true := by decide

theorem witness_PersistingErrorIsRaisedAgain :
    Ready runOn ∧ (0x80 : StatusByte).getLsbD runOn.cfg.errorBit = true := by decide

theorem witness_PollIsIdempotent : Ready runOn := by decide

theorem witness_PollReadsTwoBits :
    (0x3F : StatusByte).getLsbD runOn.cfg.awakeBit = (0x00 : StatusByte).getLsbD runOn.cfg.awakeBit ∧
    (0x3F : StatusByte).getLsbD runOn.cfg.errorBit = (0x00 : StatusByte).getLsbD runOn.cfg.errorBit := by decide

theorem witness_PollFrame : ∃ (s t : State) (v : StatusByte), exec (.poll v) s = .next t ∧ s.evtError = true :=
  ⟨{ runOn with evtError := true }, _, 0x40, rfl, rfl⟩

theorem witness_IdleReaction :
    (Ready State.reset ∧ State.reset.conf0 = 1 ∧ State.reset.conf1 = 0 ∧ State.reset.evtClick = false) ∧
    (Ready { State.reset with evtClick := true }) := by decide

/-- Both entries by history, with brakes on and off. -/
theorem witness_ClickEntersRunning :
    ∀ s ∈ ([{ State.reset with evtClick := true }, { State.reset with evtClick := true, hist := 2, brakesOn := true }] : List State),
      Ready s ∧ s.conf0 = 1 ∧ s.evtClick = true := by decide

theorem witness_RunningPriority :
    (∀ s ∈ ([{ runOn with evtLong := true, evtError := true }, { runOn with evtError := true }, runOn,
        { runOn with evtClick := true }, { runOff with evtClick := true }] : List State), Ready s ∧ Running s) := by decide

theorem witness_LongPressStopsToIdle :
    ∀ s ∈ ([{ runOn with evtLong := true }, { runOff with evtLong := true }] : List State),
      Ready s ∧ Running s ∧ s.evtLong = true := by decide

theorem witness_ErrorEventEntersError :
    ∀ s ∈ ([{ runOn with evtError := true }, { runOff with evtError := true }] : List State),
      Ready s ∧ Running s ∧ s.evtLong = false ∧ s.evtError = true := by decide

theorem witness_ClickTogglesHeadlights :
    ∀ s ∈ ([{ runOn with evtClick := true }, { runOff with evtClick := true }] : List State),
      Ready s ∧ Running s ∧ s.evtLong = false ∧ s.evtError = false ∧ s.evtClick = true := by decide

theorem witness_ErrorReturnsToIdle :
    (Ready inError ∧ inError.conf0 = 4 ∧ inError.conf1 = 0) ∧
    (Ready { runOff with evtError := true } ∧ Running runOff ∧ runOff.evtLong = false) := by decide

/-- The five cases of slot 1. -/
theorem witness_TaillightsReaction :
    (Ready { runOn with brakesOn := true } ∧ (slotZero { runOn with brakesOn := true, out := [] }).conf1 = 2) ∧
    (Ready runOff ∧ (slotZero { runOff with out := [] }).conf1 = 1 ∧ runOff.brakesOn = false) ∧
    (Ready runOn ∧ (slotZero { runOn with out := [] }).conf1 = 2 ∧ runOn.brakesOn = false) ∧
    (Ready { runOff with brakesOn := true } ∧ (slotZero { runOff with brakesOn := true, out := [] }).conf1 = 1) ∧
    (Ready inError ∧ (slotZero { inError with out := [] }).conf1 = 0) := by decide

theorem witness_StepClearsTheEvents : Ready { runOn with evtError := true, evtClick := true, evtLong := true } := by
  decide

theorem witness_StepFollowsTheTransitionTable : Ready runOn ∧ HistoryInv runOn := by decide

theorem witness_StepOutputIsAListedOne : Ready runOn ∧ RegionInv runOn := by decide

theorem witness_StepFrame : ∃ s t : State, exec .step s = .next t ∧ s ≠ t := ⟨runOn, _, rfl, by decide⟩

theorem witness_StepReadsSevenRegisters :
    Ready runOn ∧ Ready { runOn with btnShift := 7, btnPressed := true } ∧
    (∀ r ∈ [Reg.conf0, .conf1, .hist, .evtError, .evtClick, .evtLong, .brakesOn],
      r.read runOn = r.read { runOn with btnShift := 7, btnPressed := true }) := by decide

theorem witness_TaillightsShowTheBrakesLevel : Ready runOff ∧ RegionInv runOff := by decide

theorem witness_ErrorDoesNotNest :
    (Ready { State.reset with evtError := true } ∧ State.reset.conf0 = 1) ∧ (Ready inError ∧ inError.conf0 = 4) := by
  decide

theorem witness_HistoryRestoresHeadlights :
    (Ready { runOff with evtLong := true } ∧ Running runOff) ∧
    (Ready { runOn with evtError := true } ∧ Running runOn ∧ runOn.evtLong = false) := by decide

theorem witness_EventsStayUntilTheNextStep :
    (∃ (s t : State) (i : Instr), exec i s = .next t ∧ i ≠ .step ∧ s.evtError = true ∧ s.evtClick = true ∧ s.evtLong = true) ∧
    (∃ s t : State, exec .step s = .next t ∧ s.marked = false) :=
  ⟨⟨{ runOn with evtError := true, evtClick := true, evtLong := true }, _, .poll 0, rfl, by decide, rfl, rfl, rfl⟩,
    ⟨runOn, _, rfl, rfl⟩⟩

/-- A wait request is yielded, a bounce comes before the host performs it, and then the register empties again. -/
theorem witness_WaitIsHonouredOnlyWithNoPress :
    (Ready State.reset ∧ BlockInv State.reset) ∧
    ((after .step State.reset).map (·.out) = some [.waitForInterrupt] ∧
      (operationsFrom [.step, .sample 1] State.reset).map (mayHonourWait .waitForInterrupt) = some false ∧
      (operationsFrom [.step, .sample 0, .poll 0x40] State.reset).map (mayHonourWait .waitForInterrupt) = some true ∧
      (operationsFrom [.step, .sample 0] State.reset).map (mayHonourWait .startCar) = some false) :=
  ⟨⟨by decide, by decide⟩, by decide⟩

theorem witness_InvariantsHoldAtReset : ∃ c : Cfg, c.legal = true := ⟨Cfg.exampleValues, rfl⟩

theorem witness_RegionInvariantIsKept :
    (∃ s t : State, RegionInv s ∧ step s = .next t ∧ t.conf1 ≠ s.conf1) ∧
    (∃ s : State, s.input = [.reset] ∧ s.cfg.legal = true ∧ ¬RegionInv s) :=
  ⟨⟨given (.command 0xC000) { State.reset with evtClick := true }, _, by decide, rfl, by decide⟩,
    ⟨given .reset { State.reset with conf1 := 1 }, rfl, rfl, by decide⟩⟩

theorem witness_HistoryInvariantIsKept :
    (∃ s t : State, HistoryInv s ∧ step s = .next t ∧ t.hist ≠ s.hist) ∧
    (∃ s t : State, s.input = [.command 0xC000] ∧ s.hist ≠ 0 ∧ step s = .next t) ∧
    (HistoryInv runOn ∧ Running runOn) :=
  ⟨⟨given (.command 0xC000) { State.reset with evtClick := true }, _, by decide, rfl, by decide⟩,
    ⟨given (.command 0xC000) runOn, _, rfl, by decide, rfl⟩, by decide⟩

theorem witness_ButtonInvariantIsKept : ∃ s t : State, ButtonInv s ∧ step s = .next t ∧ t.btnLong ≠ s.btnLong :=
  ⟨given (.command 0x4001) { held with btnRun := 3, btnRuns := 1 }, _, by decide, rfl, by decide⟩

theorem witness_BlockInvariantIsKept :
    ∃ s : State, BlockInv s ∧ s.input = [.command 0x0000] ∧ s.faulted = false :=
  ⟨given (.command 0x0000) latched, by decide, rfl, rfl⟩

theorem witness_NormalStatesStayNormal : BlockInv inError ∧ inError.marked = false := by decide

theorem witness_RegistersHoldLegalValues : BlockInv latched := by decide

end Sys2Proof.Tests
end

section
/-!
PROOFS of the scope statements (00_scope.md): the configuration, its refusal, and the whole invariant of the block. The
invariant's parts are kept one by one: the codes, the region and the history by STEP (the only writer of `conf0`, `conf1`,
`hist`), the button registers by SAMPLE (their only writer); POLL writes none of what the invariant reads.
-/

namespace Sys2Proof.Machine

/-! ## The configuration -/

/-- The illegal values of R8 and R9, spelled out. -/
theorem illegal_iff (c : Cfg) :
    c.legal = false ↔ c.n = 0 ∨ c.l ≤ c.n ∨ c.m = 0 ∨ 1 < c.pressLevel ∨ 7 < c.awakeBit ∨ 7 < c.errorBit ∨
      c.awakeBit = c.errorBit := by
  rw [← Bool.not_eq_true, legal_iff]
  omega

/-- With no mark, an illegal configuration is refused before the codes are looked at (R141; log entry 6). -/
theorem operate_of_illegal {s : State} (f : State → State) (hm : s.marked = false) (hl : s.cfg.legal = false) :
    operate f s = .refused .badConfig := by
  simp [operate, hm, hl]

/-- A step on RESET under an illegal configuration (R141, R129). -/
theorem step_reset_of_illegal {s : State} {rest : List Input} (hin : s.input = .reset :: rest)
    (hl : s.cfg.legal = false) : step s = .next (markRefused { s with input := rest }) := by
  have hp : perform .reset { s with input := rest } = .refused .badConfig :=
    resetBlock_of_illegal (s := { s with input := rest }) hl
  rw [step_of_input hin, hp]
  rfl

/-- Settles O10: every operation by the check of `operate`, RESET by its own. -/
theorem illegalConfigIsRefused : Obligations.IllegalConfigIsRefused := by
  refine ⟨fun s i hm hl => ?_, fun s rest hin hl => ⟨resetBlock_of_illegal hl, step_reset_of_illegal hin hl⟩⟩
  rw [exec_eq]
  exact operate_of_illegal _ hm ((illegal_iff _).mpr hl)

/-! ## The moves of SAMPLE, and what the effects leave unchanged -/

/-- The move SAMPLE makes from `s` when the sample reads `b` and the shifted register is `sh`, with the state it leaves (the
cases of `sampleEffect_cases`). -/
inductive SampleMove (s : State) (b : Bool) (sh : Nat) : State → Prop where
  /-- Press recognised (R77). -/
  | press (hp : s.btnPressed = false) (hsh : sh = allPressed s.cfg) :
      SampleMove s b sh { s with btnShift := sh, btnPressed := true, btnRun := 0, btnRuns := 0, btnLong := false }
  /-- No press yet (R77). -/
  | released (hp : s.btnPressed = false) (hsh : sh ≠ allPressed s.cfg) : SampleMove s b sh { s with btnShift := sh }
  /-- Release recognised (R80). -/
  | release (hp : s.btnPressed = true) (hsh : sh = 0) :
      SampleMove s b sh
        { s with
          btnShift := sh, btnPressed := false, btnRun := 0, btnRuns := 0, btnLong := false
          evtClick := s.evtClick || !s.btnLong }
  /-- Held after the long-press (R82). -/
  | latched (hp : s.btnPressed = true) (hsh : sh ≠ 0) (hlong : s.btnLong = true) :
      SampleMove s b sh { s with btnShift := sh }
  /-- A not-pressed sample breaks the run (R81). -/
  | broken (hp : s.btnPressed = true) (hsh : sh ≠ 0) (hlong : s.btnLong = false) (hb : b = false) :
      SampleMove s b sh { s with btnShift := sh, btnRun := 0 }
  /-- A pressed sample counted (R78). -/
  | counted (hp : s.btnPressed = true) (hsh : sh ≠ 0) (hlong : s.btnLong = false) (hb : b = true)
      (hrun : s.btnRun + 1 ≠ s.cfg.l) : SampleMove s b sh { s with btnShift := sh, btnRun := s.btnRun + 1 }
  /-- A run completed, not the M-th (R78). -/
  | completed (hp : s.btnPressed = true) (hsh : sh ≠ 0) (hlong : s.btnLong = false) (hb : b = true)
      (hrun : s.btnRun + 1 = s.cfg.l) (hruns : s.btnRuns + 1 ≠ s.cfg.m) :
      SampleMove s b sh { s with btnShift := sh, btnRun := 0, btnRuns := s.btnRuns + 1 }
  /-- The M-th run completed: the long-press (R79). -/
  | longPress (hp : s.btnPressed = true) (hsh : sh ≠ 0) (hlong : s.btnLong = false) (hb : b = true)
      (hrun : s.btnRun + 1 = s.cfg.l) (hruns : s.btnRuns + 1 = s.cfg.m) :
      SampleMove s b sh
        { s with btnShift := sh, btnRun := 0, btnRuns := s.btnRuns + 1, btnLong := true, evtLong := true }

/-- SAMPLE's effect is one of its moves. -/
theorem sampleEffect_move (p : PinLevel) (s : State) :
    SampleMove s (pressedSample s.cfg p) (shiftIn s.cfg s.btnShift (pressedSample s.cfg p)) (sampleEffect p s) := by
  rcases sampleEffect_cases p s rfl rfl with ⟨hp, hsh, e⟩ | ⟨hp, hsh, e⟩ | ⟨hp, hsh, e⟩ | ⟨hp, hsh, hlong, e⟩ |
    ⟨hp, hsh, hlong, hb, e⟩ | ⟨hp, hsh, hlong, hb, hrun, e⟩ | ⟨hp, hsh, hlong, hb, hrun, hruns, e⟩ |
    ⟨hp, hsh, hlong, hb, hrun, hruns, e⟩ <;> rw [e]
  · exact .press hp hsh
  · exact .released hp hsh
  · exact .release hp hsh
  · exact .latched hp hsh hlong
  · exact .broken hp hsh hlong hb
  · exact .counted hp hsh hlong hb hrun
  · exact .completed hp hsh hlong hb hrun hruns
  · exact .longPress hp hsh hlong hb hrun hruns

/-- What SAMPLE never writes (R38, R74): everything but the button registers, the click and the long-press. -/
theorem sampleEffect_rest (p : PinLevel) (s : State) :
    (sampleEffect p s).cfg = s.cfg ∧ (sampleEffect p s).conf0 = s.conf0 ∧ (sampleEffect p s).conf1 = s.conf1 ∧
    (sampleEffect p s).hist = s.hist ∧ (sampleEffect p s).evtError = s.evtError ∧
    (sampleEffect p s).brakesOn = s.brakesOn ∧ (sampleEffect p s).refused = s.refused ∧
    (sampleEffect p s).faulted = s.faulted ∧ (sampleEffect p s).input = s.input ∧
    (sampleEffect p s).out = s.out := by
  have m := sampleEffect_move p s
  generalize sampleEffect p s = t at m
  cases m <;> exact ⟨rfl, rfl, rfl, rfl, rfl, rfl, rfl, rfl, rfl, rfl⟩

/-- No operation writes the configuration, a mark or the input list (R34, R145). -/
theorem effectOf_rest (i : Instr) {s : State} (hc : s.codesLegal = true) :
    (effectOf i s).cfg = s.cfg ∧ (effectOf i s).refused = s.refused ∧ (effectOf i s).faulted = s.faulted ∧
    (effectOf i s).input = s.input := by
  cases i with
  | sample p =>
    obtain ⟨hcfg, -, -, -, -, -, hr, hf, hin, -⟩ := sampleEffect_rest p s
    exact ⟨hcfg, hr, hf, hin⟩
  | poll v => simp [effectOf, pollEffect_eq]
  | step =>
    obtain ⟨h1, h4, -, -⟩ := (codesLegal_iff s).mp hc
    obtain ⟨hcfg, -, -, -, -, -, -, hr, hf, hin⟩ := stepEffect_rest s h1 h4
    exact ⟨hcfg, hr, hf, hin⟩

/-- However an input is taken, the configuration stays. -/
theorem Took.cfg_eq {s t : State} {op : Input} (h : Took s op t) : t.cfg = s.cfg := by
  cases h with
  | performed w i hr hd =>
    obtain ⟨-, -, hc⟩ := hr
    obtain ⟨hcfg, -⟩ := effectOf_rest i (s := startOutput s) hc
    exact hcfg
  | _ => rfl

/-- Settles O12: a step with nothing presented changes nothing, and no way of taking an input writes the configuration. -/
theorem configurationIsKept : Obligations.ConfigurationIsKept := by
  intro s t h
  rcases step_cases h with ⟨-, rfl⟩ | ⟨op, rest, -, htook⟩
  · rfl
  · exact htook.cfg_eq

/-! ## The invariants after reset -/

/-- N ones are not N zeros, as N is at least 1 (R8). -/
theorem allPressed_ne_zero {c : Cfg} (h : c.legal = true) : allPressed c ≠ 0 := by
  obtain ⟨hn, -⟩ := (legal_iff c).mp h
  have hpow : 2 ^ 1 ≤ 2 ^ c.n := Nat.pow_le_pow_right (by decide) hn
  rw [allPressed]
  omega

/-- The state after reset has the whole invariant under every legal configuration (R35 to R37, R41). -/
theorem blockInv_resetWith {c : Cfg} (h : c.legal = true) : BlockInv (State.resetWith c) := by
  obtain ⟨-, hnl, hm, -⟩ := (legal_iff c).mp h
  refine ⟨h, rfl, ?region, ?history, ?button, ?range, ?debounce⟩
  case region => simp [RegionInv, Running, conf0Idle, conf1Unset]
  case history => simp [HistoryInv, conf0Idle]
  case button => exact ⟨fun _ => ⟨rfl, rfl, rfl⟩, by simp, fun _ => hm⟩
  case range => exact ⟨Nat.two_pow_pos _, Nat.zero_lt_of_lt hnl, Nat.zero_le _⟩
  case debounce => exact ⟨by simp, fun _ => (allPressed_ne_zero h).symm, fun _ => rfl⟩

/-- Settles O53: no mark is set after reset and its codes are legal, so the state is also ready. -/
theorem invariantsHoldAtReset : Obligations.InvariantsHoldAtReset :=
  ⟨fun _ h => ⟨blockInv_resetWith h, rfl, h, rfl⟩, blockInv_resetWith (by decide)⟩

/-! ## STEP keeps the codes, the region invariant and the history invariant -/

/-- Slot 0 leaves legal codes. -/
theorem SlotZeroMove.codes_legal {s : State} {c0 : BitVec 3} {c1 h : BitVec 2} {o : List ActuatorCall}
    (m : SlotZeroMove s c0 c1 h o) (hc1 : s.conf1.toNat ≤ 2) (hh : s.hist.toNat ≤ 2) :
    1 ≤ c0.toNat ∧ c0.toNat ≤ 4 ∧ c1.toNat ≤ 2 ∧ h.toNat ≤ 2 := by
  cases m <;> simp [hc1, hh]

/-- Slot 1 leaves a legal code. -/
theorem SlotOneMove.code_legal {a c : BitVec 2} {b : Bool} {o : List ActuatorCall} (m : SlotOneMove a b c o)
    (ha : a.toNat ≤ 2) : c.toNat ≤ 2 := by
  cases m with
  | illegal => exact ha
  | _ => decide

/-- STEP leaves legal codes (R44). -/
theorem stepEffect_codesLegal {s : State} (hc : s.codesLegal = true) : (stepEffect s).codesLegal = true := by
  obtain ⟨h1, h4, hc1, hh⟩ := (codesLegal_iff s).mp hc
  obtain ⟨c0, c1, h, o, c1', o', m0, m1, e⟩ := stepEffect_move s h1 h4
  obtain ⟨l1, l4, lc1, lh⟩ := m0.codes_legal hc1 hh
  rw [codesLegal_iff, e]
  exact ⟨l1, l4, m1.code_legal lc1, lh⟩

/-- Slot 0 keeps the region invariant: it enters and leaves both regions together (R108, R113). -/
theorem SlotZeroMove.regionInv {s : State} {c0 : BitVec 3} {c1 h : BitVec 2} {o : List ActuatorCall}
    (m : SlotZeroMove s c0 c1 h o) (hr : RegionInv s) : (c0 = 2 ∨ c0 = 3) ↔ (c1 = 1 ∨ c1 = 2) := by
  rw [RegionInv, Running] at hr
  cases m <;> simp_all

/-- Slot 1 neither enters nor leaves region 1 (R104 to R106). -/
theorem SlotOneMove.active_iff {a c : BitVec 2} {b : Bool} {o : List ActuatorCall} (m : SlotOneMove a b c o) :
    (a = 1 ∨ a = 2) ↔ (c = 1 ∨ c = 2) := by
  cases m <;> decide

/-- STEP keeps the region invariant (R35). -/
theorem stepEffect_regionInv {s : State} (hc : s.codesLegal = true) (hr : RegionInv s) : RegionInv (stepEffect s) := by
  obtain ⟨h1, h4, -, -⟩ := (codesLegal_iff s).mp hc
  obtain ⟨c0, c1, h, o, c1', o', m0, m1, e⟩ := stepEffect_move s h1 h4
  rw [e]
  exact (m0.regionInv hr).trans m1.active_iff

/-- Slot 0 keeps the history invariant: a move into another Headlights sub-state writes `hist` with it (R110). -/
theorem SlotZeroMove.historyInv {s : State} {c0 : BitVec 3} {c1 h : BitVec 2} {o : List ActuatorCall}
    (m : SlotZeroMove s c0 c1 h o) (hh : HistoryInv s) : (c0 = 2 → h = 1) ∧ (c0 = 3 → h = 2) := by
  obtain ⟨hOn, hOff⟩ := hh
  cases m with
  | waitOn h0 => exact ⟨fun _ => hOn h0, by simp⟩
  | waitOff h0 => exact ⟨by simp, fun _ => hOff h0⟩
  | _ => simp

/-- STEP keeps the history invariant (R36). -/
theorem stepEffect_historyInv {s : State} (hc : s.codesLegal = true) (hh : HistoryInv s) :
    HistoryInv (stepEffect s) := by
  obtain ⟨h1, h4, -, -⟩ := (codesLegal_iff s).mp hc
  obtain ⟨c0, c1, h, o, c1', o', m0, -, e⟩ := stepEffect_move s h1 h4
  rw [e]
  exact m0.historyInv hh

/-! ## SAMPLE keeps the button invariants -/

/-- SAMPLE keeps the button invariants (R37): a press and a release clear the counters and the latch, and the M-th run
sets the latch. -/
theorem SampleMove.buttonInv {s t : State} {b : Bool} {sh : Nat} (m : SampleMove s b sh t) (hl : s.cfg.legal = true)
    (hb : ButtonInv s) : ButtonInv t := by
  obtain ⟨-, -, hm, -⟩ := (legal_iff _).mp hl
  have ⟨_, _, hOpen⟩ := hb
  cases m with
  | press => exact ⟨by simp, by simp, fun _ => hm⟩
  | released => exact hb
  | release => exact ⟨fun _ => ⟨rfl, rfl, rfl⟩, by simp, fun _ => hm⟩
  | latched => exact hb
  | broken hp _ hlong => exact ⟨by simp [hp], by simp [hlong], hOpen⟩
  | counted hp _ hlong => exact ⟨by simp [hp], by simp [hlong], hOpen⟩
  | completed hp _ hlong _ _ hruns =>
    exact ⟨by simp [hp], by simp [hlong], fun _ => Nat.lt_of_le_of_ne (hOpen hlong) hruns⟩
  | longPress hp _ _ _ _ hruns => exact ⟨by simp [hp], fun _ => ⟨hp, hruns⟩, by simp⟩

/-- SAMPLE keeps the three button registers in their ranges (R30): a counter that reaches its bound restarts or latches. -/
theorem SampleMove.rangeInv {s t : State} {b : Bool} {sh : Nat} (m : SampleMove s b sh t) (hl : s.cfg.legal = true)
    (hb : ButtonInv s) (hr : RangeInv s) (hlt : sh < 2 ^ s.cfg.n) : RangeInv t := by
  obtain ⟨-, hnl, -⟩ := (legal_iff _).mp hl
  obtain ⟨-, -, hOpen⟩ := hb
  obtain ⟨-, hrunLt, hrunsLe⟩ := hr
  have hl0 : 0 < s.cfg.l := Nat.zero_lt_of_lt hnl
  cases m with
  | press => exact ⟨hlt, hl0, Nat.zero_le _⟩
  | released => exact ⟨hlt, hrunLt, hrunsLe⟩
  | release => exact ⟨hlt, hl0, Nat.zero_le _⟩
  | latched => exact ⟨hlt, hrunLt, hrunsLe⟩
  | broken => exact ⟨hlt, hl0, hrunsLe⟩
  | counted _ _ _ _ hrun => exact ⟨hlt, Nat.lt_of_le_of_ne hrunLt hrun, hrunsLe⟩
  | completed _ _ hlong => exact ⟨hlt, hl0, hOpen hlong⟩
  | longPress _ _ hlong => exact ⟨hlt, hl0, hOpen hlong⟩

/-- SAMPLE keeps what the shift register can hold and that a latched press counts no run (R77, R79, R80, R82). -/
theorem SampleMove.debounceInv {s t : State} {b : Bool} {sh : Nat} (m : SampleMove s b sh t)
    (hl : s.cfg.legal = true) (hd : DebounceInv s) : DebounceInv t := by
  have hones : allPressed s.cfg ≠ 0 := allPressed_ne_zero hl
  obtain ⟨-, -, hlatched⟩ := hd
  cases m with
  | press _ hsh => exact ⟨fun _ => hsh.trans_ne hones, by simp, fun _ => rfl⟩
  | released hp hsh => exact ⟨by simp [hp], fun _ => hsh, hlatched⟩
  | release _ hsh => exact ⟨by simp, fun _ => hsh.trans_ne hones.symm, fun _ => rfl⟩
  | latched hp hsh => exact ⟨fun _ => hsh, by simp [hp], hlatched⟩
  | broken hp hsh => exact ⟨fun _ => hsh, by simp [hp], fun _ => rfl⟩
  | counted hp hsh hlong => exact ⟨fun _ => hsh, by simp [hp], by simp [hlong]⟩
  | completed hp hsh => exact ⟨fun _ => hsh, by simp [hp], fun _ => rfl⟩
  | longPress hp hsh => exact ⟨fun _ => hsh, by simp [hp], fun _ => rfl⟩

/-! ## The whole invariant -/

/-- SAMPLE keeps the whole invariant. -/
theorem sampleEffect_blockInv (p : PinLevel) {s : State} (h : BlockInv s) : BlockInv (sampleEffect p s) := by
  obtain ⟨hl, hc, hreg, hhist, hbtn, hrange, hdeb⟩ := h
  obtain ⟨hcfg, h0, h1, hh, -⟩ := sampleEffect_rest p s
  have m := sampleEffect_move p s
  refine ⟨by rwa [hcfg], ?codes, ?region, ?history, m.buttonInv hl hbtn,
    m.rangeInv hl hbtn hrange (shiftIn_lt _ _ _), m.debounceInv hl hdeb⟩
  case codes => rwa [codesLegal_iff, h0, h1, hh, ← codesLegal_iff]
  case region => rwa [RegionInv, Running, h0, h1]
  case history => rwa [HistoryInv, h0, hh]

/-- POLL writes nothing the invariant reads. -/
theorem pollEffect_blockInv (v : StatusByte) {s : State} (h : BlockInv s) : BlockInv (pollEffect v s) := by
  rw [pollEffect_eq]
  exact h

/-- STEP keeps the whole invariant. -/
theorem stepEffect_blockInv {s : State} (h : BlockInv s) : BlockInv (stepEffect s) := by
  obtain ⟨hl, hc, hreg, hhist, hbtn, hrange, hdeb⟩ := h
  obtain ⟨h1, h4, -, -⟩ := (codesLegal_iff s).mp hc
  obtain ⟨hcfg, -, hshift, hpressed, hrun, hruns, hlong, -⟩ := stepEffect_rest s h1 h4
  refine ⟨by rwa [hcfg], stepEffect_codesLegal hc, stepEffect_regionInv hc hreg, stepEffect_historyInv hc hhist,
    ?button, ?range, ?debounce⟩
  case button => rwa [ButtonInv, hcfg, hpressed, hrun, hruns, hlong]
  case range => rwa [RangeInv, hcfg, hshift, hrun, hruns]
  case debounce => rwa [DebounceInv, hcfg, hshift, hpressed, hrun, hlong]

/-- Every operation's effect keeps the whole invariant. -/
theorem effectOf_blockInv (i : Instr) {s : State} (h : BlockInv s) : BlockInv (effectOf i s) := by
  cases i with
  | sample p => exact sampleEffect_blockInv p h
  | poll v => exact pollEffect_blockInv v h
  | step => exact stepEffect_blockInv h

/-- However an input is taken, the whole invariant is kept: a refusal, a fault and a word under a mark write no register. -/
theorem Took.blockInv {s t : State} {op : Input} (h : Took s op t) (hs : BlockInv s) : BlockInv t := by
  cases h with
  | reset hl => exact blockInv_resetWith hl
  | performed w i => exact effectOf_blockInv i (s := startOutput s) hs
  | _ => exact hs

/-- However an input is taken from a state with legal codes, no fault is recorded (R130; decision D23). -/
theorem Took.faulted_eq_false {s t : State} {op : Input} (h : Took s op t) (hc : s.codesLegal = true)
    (hf : s.faulted = false) : t.faulted = false := by
  cases h with
  | reset => rfl
  | badCode w i hm hd hl hc' => exact absurd hc (by simp [hc'])
  | performed w i hr hd =>
    obtain ⟨-, -, hfaulted, -⟩ := effectOf_rest i (s := startOutput s) hc
    exact hfaulted.trans hf
  | _ => exact hf

/-- Settles O57, by the cases of taking an input. -/
theorem blockInvariantIsKept : Obligations.BlockInvariantIsKept := by
  intro s hs
  have ⟨_, hc, _⟩ := hs
  cases hin : s.input with
  | nil => exact ⟨s, step_of_empty hin, hs, id⟩
  | cons op rest =>
    obtain ⟨t, ht, htook⟩ := perform_took { s with input := rest } op
    exact ⟨t, by rw [step_of_input hin, ht], htook.blockInv hs, htook.faulted_eq_false hc⟩

/-! ## The register table -/

/-- A value below `k` fits the bits R10 gives it. -/
theorem lt_two_pow_bitsBelow {v k : Nat} (h : v < k) : v < 2 ^ bitsBelow k := by
  rw [bitsBelow]
  split
  · omega
  · exact Nat.lt_of_le_of_lt (Nat.le_sub_one_of_lt h) Nat.lt_log2_self

/-- Every legal value of a register fits the register's width (R10, R21; decision D22). -/
theorem Reg.lt_two_pow_width {r : Reg} {c : Cfg} {v : Nat} (h : r.legalValue c v = true) : v < 2 ^ r.width c := by
  cases r with
  | conf0 =>
    obtain ⟨-, h4⟩ := Bool.and_eq_true_iff.mp h
    exact Nat.lt_of_le_of_lt (of_decide_eq_true h4) (show 4 < 2 ^ 3 by decide)
  | btnShift => exact of_decide_eq_true h
  | btnRun => exact lt_two_pow_bitsBelow (of_decide_eq_true h)
  | btnRuns => exact lt_two_pow_bitsBelow (Nat.lt_succ_of_le (of_decide_eq_true h))
  | conf1 | hist => exact Nat.lt_of_le_of_lt (of_decide_eq_true h) (show 2 < 2 ^ 2 by decide)
  | _ => exact Nat.lt_of_le_of_lt (of_decide_eq_true h) (show 1 < 2 ^ 1 by decide)

/-- Under the invariant every register holds a legal value (R21): the codes are legal, the counters in their ranges. -/
theorem BlockInv.legalValue_read {s : State} (h : BlockInv s) (r : Reg) : r.legalValue s.cfg (r.read s) = true := by
  obtain ⟨-, hc, -, -, -, ⟨hshift, hrun, hruns⟩, -⟩ := h
  obtain ⟨h1, h4, hc1, hh⟩ := (codesLegal_iff s).mp hc
  cases r with
  | conf0 => exact Bool.and_eq_true_iff.mpr ⟨decide_eq_true h1, decide_eq_true h4⟩
  | conf1 => exact decide_eq_true hc1
  | hist => exact decide_eq_true hh
  | btnShift => exact decide_eq_true hshift
  | btnRun => exact decide_eq_true hrun
  | btnRuns => exact decide_eq_true hruns
  | _ => exact decide_eq_true (Bool.toNat_le _)

/-- Settles O59: the invariant gives the legal values, and these fit the widths. -/
theorem registersHoldLegalValues : Obligations.RegistersHoldLegalValues :=
  fun _ hs r => ⟨hs.legalValue_read r, Reg.lt_two_pow_width (hs.legalValue_read r)⟩

end Sys2Proof.Machine
end

section
/-!
PROOFS of the state statements (10_state.md): the invariants R35 to R37. Each invariant of one state is kept by `step` because
every operation's effect keeps it and no other way of taking an input writes a register it reads (`step_preserves`).
-/

namespace Sys2Proof.Machine

/-! ## A step, by the input it takes -/

/-- A step on a presented input takes that input. -/
theorem took_of_step {s t : State} {op : Input} {rest : List Input} (hin : s.input = op :: rest)
    (h : step s = .next t) : Took { s with input := rest } op t := by
  rcases step_cases h with ⟨hnil, -⟩ | ⟨op', rest', hin', htook⟩
  · simp [hin] at hnil
  · obtain ⟨rfl, rfl⟩ := List.cons.inj (hin.symm.trans hin')
    exact htook

/-- A predicate that reads no port and no mark is kept by every step, if the whole invariant, which RESET establishes, implies
it and every operation's effect keeps it. -/
theorem step_preserves {P : State → Prop}
    (hports : ∀ (s : State) (rest : List Input) (out : List ActuatorCall) (rf ft : Bool),
      P s → P { s with input := rest, out := out, refused := rf, faulted := ft })
    (hinv : ∀ s : State, BlockInv s → P s)
    (heffect : ∀ (i : Instr) (s : State), s.cfg.legal = true → s.codesLegal = true → P s → P (effectOf i s))
    {s t : State} (hs : P s) (h : step s = .next t) : P t := by
  rcases step_cases h with ⟨-, rfl⟩ | ⟨op, rest, -, htook⟩
  · exact hs
  · cases htook with
    | reset hl => exact hinv _ (blockInv_resetWith hl)
    | performed w i hr =>
      obtain ⟨-, hl, hc⟩ := hr
      exact heffect i _ hl hc (hports s rest [] s.refused s.faulted hs)
    | badCode => exact hports s rest [] s.refused true hs
    | idle => exact hports s rest [] s.refused s.faulted hs
    | _ => exact hports s rest [] true s.faulted hs

/-- A step on RESET under a legal configuration (R41, R142). -/
theorem step_reset_of_legal {s : State} {rest : List Input} (hin : s.input = .reset :: rest)
    (hl : s.cfg.legal = true) : step s = .next { State.resetWith s.cfg with input := rest } := by
  have hp : perform .reset { s with input := rest } = .next { State.resetWith s.cfg with input := rest } :=
    resetBlock_of_legal (s := { s with input := rest }) hl
  rw [step_of_input hin, hp]
  rfl

/-! ## The region invariant -/

/-- An operation that is not STEP leaves the active states and the history. -/
theorem effectOf_regions {i : Instr} (s : State) (hi : i ≠ .step) :
    (effectOf i s).conf0 = s.conf0 ∧ (effectOf i s).conf1 = s.conf1 ∧ (effectOf i s).hist = s.hist := by
  cases i with
  | sample p =>
    obtain ⟨-, h0, h1, hh, -⟩ := sampleEffect_rest p s
    exact ⟨h0, h1, hh⟩
  | poll v =>
    rw [effectOf, pollEffect_eq]
    exact ⟨rfl, rfl, rfl⟩
  | step => exact absurd rfl hi

/-- Every operation's effect keeps the region invariant: only STEP writes what it reads (R35). -/
theorem effectOf_regionInv (i : Instr) {s : State} (hc : s.codesLegal = true) (hr : RegionInv s) :
    RegionInv (effectOf i s) := by
  obtain rfl | hi := eq_or_ne i .step
  · exact stepEffect_regionInv hc hr
  · obtain ⟨h0, h1, -⟩ := effectOf_regions s hi
    rwa [RegionInv, Running, h0, h1]

/-- Settles O54, by the effects of the operations and the state RESET leaves. -/
theorem regionInvariantIsKept : Obligations.RegionInvariantIsKept :=
  ⟨fun _ _ hs h => step_preserves (P := RegionInv) (fun _ _ _ _ _ h => h) (fun _ ⟨_, _, hreg, _⟩ => hreg)
      (fun i _ _ hc => effectOf_regionInv i hc) hs h,
    fun _ _ hin hl =>
      have ⟨_, _, hreg, _⟩ := blockInv_resetWith hl
      ⟨_, step_reset_of_legal hin hl, hreg⟩⟩

/-! ## The history invariant -/

/-- Every operation's effect keeps the history invariant: only STEP writes what it reads (R36). -/
theorem effectOf_historyInv (i : Instr) {s : State} (hc : s.codesLegal = true) (hh : HistoryInv s) :
    HistoryInv (effectOf i s) := by
  obtain rfl | hi := eq_or_ne i .step
  · exact stepEffect_historyInv hc hh
  · obtain ⟨h0, -, hhist⟩ := effectOf_regions s hi
    rwa [HistoryInv, h0, hhist]

/-- Slot 0 never writes Unset to `hist` (R110, R114). -/
theorem SlotZeroMove.hist_ne_zero {s : State} {c0 : BitVec 3} {c1 h : BitVec 2} {o : List ActuatorCall}
    (m : SlotZeroMove s c0 c1 h o) (hh : s.hist ≠ 0) : h ≠ 0 := by
  cases m with
  | waitIdle | waitOn | waitOff | recover => exact hh
  | _ => decide

/-- No operation's effect makes `hist` Unset again. -/
theorem effectOf_hist_ne_zero (i : Instr) {s : State} (hc : s.codesLegal = true) (hh : s.hist ≠ 0) :
    (effectOf i s).hist ≠ 0 := by
  obtain rfl | hi := eq_or_ne i .step
  · obtain ⟨h1, h4, -, -⟩ := (codesLegal_iff s).mp hc
    obtain ⟨c0, c1, h, o, c1', o', m0, -, e⟩ := stepEffect_move s h1 h4
    rw [effectOf, e]
    exact m0.hist_ne_zero hh
  · obtain ⟨-, -, hhist⟩ := effectOf_regions s hi
    rwa [hhist]

/-- However a command word is taken, `hist` is not made Unset. -/
theorem Took.hist_ne_zero {s t : State} {w : CommandWord} (h : Took s (.command w) t) (hh : s.hist ≠ 0) :
    t.hist ≠ 0 := by
  cases h with
  | performed _ i hr =>
    obtain ⟨-, -, hc⟩ := hr
    exact effectOf_hist_ne_zero i (s := startOutput s) hc hh
  | _ => exact hh

/-- In Running the history invariant gives a set `hist`. -/
theorem HistoryInv.hist_ne_zero {s : State} (h : HistoryInv s) (hr : Running s) : s.hist ≠ 0 := by
  obtain ⟨hOn, hOff⟩ := h
  rcases hr with h0 | h0
  · simp [hOn h0]
  · simp [hOff h0]

/-- Settles O55: the invariant by the effects of the operations, the slot by the cases of taking a command word. -/
theorem historyInvariantIsKept : Obligations.HistoryInvariantIsKept :=
  ⟨fun _ _ hs h => step_preserves (P := HistoryInv) (fun _ _ _ _ _ h => h)
      (fun _ ⟨_, _, _, hhist, _⟩ => hhist) (fun i _ _ hc => effectOf_historyInv i hc) hs h,
    fun _ _ _ _ hin hh h => (took_of_step hin h).hist_ne_zero hh,
    fun _ hs hr => hs.hist_ne_zero hr⟩

/-! ## The button invariants -/

/-- Every operation's effect keeps the button invariants: only SAMPLE writes what they read (R37). -/
theorem effectOf_buttonInv (i : Instr) {s : State} (hl : s.cfg.legal = true) (hc : s.codesLegal = true)
    (hb : ButtonInv s) : ButtonInv (effectOf i s) := by
  cases i with
  | sample p => exact (sampleEffect_move p s).buttonInv hl hb
  | poll v => rwa [effectOf, pollEffect_eq]
  | step =>
    obtain ⟨h1, h4, -, -⟩ := (codesLegal_iff s).mp hc
    obtain ⟨hcfg, -, -, hpressed, hrun, hruns, hlong, -⟩ := stepEffect_rest s h1 h4
    rwa [effectOf, ButtonInv, hcfg, hpressed, hrun, hruns, hlong]

/-- Settles O56, by the effects of the operations and the state RESET leaves. -/
theorem buttonInvariantIsKept : Obligations.ButtonInvariantIsKept :=
  fun _ _ hs h => step_preserves (P := ButtonInv) (fun _ _ _ _ _ h => h) (fun _ ⟨_, _, _, _, hbutton, _⟩ => hbutton)
    (fun i _ hl hc => effectOf_buttonInv i hl hc) hs h

end Sys2Proof.Machine
end

section
/-!
PROOFS of the state statements (10_state.md), continued: the marks of R34 and the illegal codes of R44, the frames of the
operations and the writer of each register (R21, R38), the events (R25), and POLL performed twice.
-/

namespace Sys2Proof.Machine

/-! ## The marks and the decoded operation (R34, R129, R130) -/

/-- A step on a command word with no mark set runs the operation it decodes to (R51, R57). -/
theorem step_of_decode {s : State} {w : CommandWord} {rest : List Input} {i : Instr}
    (hin : s.input = .command w :: rest) (hm : s.marked = false) (hd : decode w = .ok i) :
    step s = recordOutcome { s with input := rest } (exec i { s with input := rest }) := by
  have hm' : State.marked { s with input := rest } = false := hm
  simp [step_of_input hin, perform, presentWord, hm', hd]

/-- Settles O5, by the step on a decoded word. -/
theorem stepRunsTheDecodedOperation : Obligations.StepRunsTheDecodedOperation :=
  fun _ _ _ _ => step_of_decode

/-- Settles O14: the state after reset, written out. -/
theorem resetWritesEveryRegister : Obligations.ResetWritesEveryRegister :=
  fun _ _ => step_reset_of_legal

/-- Under a mark a command word is taken from the list and empties the output list (log entry 11). -/
theorem step_of_marked {s : State} {w : CommandWord} {rest : List Input} (hin : s.input = .command w :: rest)
    (hm : s.marked = true) : step s = .next { s with input := rest, out := [] } := by
  have hm' : State.marked { s with input := rest } = true := hm
  rw [step_of_input hin, perform, presentWord, if_pos hm']
  rfl

/-- However a command word is taken, no mark is cleared. -/
theorem Took.marks_kept {s t : State} {w : CommandWord} (h : Took s (.command w) t) :
    (s.refused = true → t.refused = true) ∧ (s.faulted = true → t.faulted = true) := by
  cases h with
  | performed _ i hr =>
    obtain ⟨-, -, hc⟩ := hr
    obtain ⟨-, hrefused, hfaulted, -⟩ := effectOf_rest i (s := startOutput s) hc
    exact ⟨hrefused.trans, hfaulted.trans⟩
  | badCode => exact ⟨id, fun _ => rfl⟩
  | idle => exact ⟨id, id⟩
  | _ => exact ⟨fun _ => rfl, id⟩

/-- Settles O8: a word under a mark by the check of `presentWord`, RESET by the state it leaves. -/
theorem markedBlockOnlyResets : Obligations.MarkedBlockOnlyResets :=
  ⟨fun _ _ _ => step_of_marked, fun _ _ hin hl => ⟨_, step_reset_of_legal hin hl, rfl, rfl⟩,
    fun _ _ _ _ hin h => (took_of_step hin h).marks_kept, fun _ => ⟨rfl, rfl⟩⟩

/-! ## The illegal codes (R44) -/

/-- The illegal codes of R44, spelled out. -/
theorem codesIllegal_iff (s : State) :
    s.codesLegal = false ↔ s.conf0.toNat = 0 ∨ 5 ≤ s.conf0.toNat ∨ s.conf1.toNat = 3 ∨ s.hist.toNat = 3 := by
  have hconf1 : s.conf1.toNat < 4 := s.conf1.isLt
  have hhist : s.hist.toNat < 4 := s.hist.isLt
  rw [← Bool.not_eq_true, codesLegal_iff]
  omega

/-- With no mark and a legal configuration, an illegal code makes every operation fault. -/
theorem exec_of_badCode {s : State} (i : Instr) (hm : s.marked = false) (hl : s.cfg.legal = true)
    (hc : s.codesLegal = false) : exec i s = .fault .badStateCode := by
  simp [exec_eq, operate, hm, hl, hc]

/-- No operation's effect writes an illegal code: only STEP writes the three registers. -/
theorem effectOf_codesLegal (i : Instr) {s : State} (hc : s.codesLegal = true) : (effectOf i s).codesLegal = true := by
  obtain rfl | hi := eq_or_ne i .step
  · exact stepEffect_codesLegal hc
  · obtain ⟨h0, h1, hh⟩ := effectOf_regions s hi
    rwa [codesLegal_iff, h0, h1, hh, ← codesLegal_iff]

/-- Settles O9: the fault by the check of `operate`, its record by the step that runs the decoded operation. -/
theorem illegalCodeFaults : Obligations.IllegalCodeFaults := by
  refine ⟨fun s i hm hl hc => exec_of_badCode i hm hl ((codesIllegal_iff s).mpr hc), ?recorded, ?kept⟩
  case recorded =>
    intro s w rest i hin hm hl hc hd
    rw [step_of_decode hin hm hd, exec_of_badCode (s := { s with input := rest }) i hm hl hc]
    rfl
  case kept =>
    exact fun s t hs h => step_preserves (P := fun s => s.codesLegal = true) (fun _ _ _ _ _ h => h)
      (fun _ ⟨_, hc, _⟩ => hc) (fun i _ _ _ => effectOf_codesLegal i) hs h

/-! ## What the operations leave unchanged (R21, R38) -/

/-- What a next state of an operation is: under a mark the state with no output, else the operation's effect. -/
theorem exec_next {i : Instr} {s t : State} (h : exec i s = .next t) :
    (s.marked = true ∧ t = startOutput s) ∨ (Ready s ∧ t = effectOf i (startOutput s)) :=
  operate_next (exec_eq i s ▸ h)

/-- In a ready state an operation takes its effect. -/
theorem exec_of_ready (i : Instr) {s : State} (h : Ready s) : exec i s = .next (effectOf i (startOutput s)) := by
  rw [exec_eq, operate_of_ready _ h]

/-- Emptying the output list changes no register. -/
@[simp] theorem read_startOutput (r : Reg) (s : State) : r.read (startOutput s) = r.read s := by
  cases r <;> rfl

/-- SAMPLE writes the button registers, the click and the long-press only. -/
theorem read_sampleEffect {r : Reg} (p : PinLevel) (s : State)
    (hr : r ∉ [Reg.evtClick, .evtLong, .btnShift, .btnPressed, .btnRun, .btnRuns, .btnLong]) :
    r.read (sampleEffect p s) = r.read s := by
  obtain ⟨-, h0, h1, hh, he, hb, -⟩ := sampleEffect_rest p s
  cases r with
  | conf0 => exact congrArg BitVec.toNat h0
  | conf1 => exact congrArg BitVec.toNat h1
  | hist => exact congrArg BitVec.toNat hh
  | evtError => exact congrArg Bool.toNat he
  | brakesOn => exact congrArg Bool.toNat hb
  | _ => simp at hr

/-- SAMPLE clears no event (R38). -/
theorem SampleMove.events_kept {s t : State} {b : Bool} {sh : Nat} (m : SampleMove s b sh t) :
    (s.evtClick = true → t.evtClick = true) ∧ (s.evtLong = true → t.evtLong = true) := by
  cases m with
  | release => exact ⟨fun h => by simp [h], id⟩
  | longPress => exact ⟨id, fun _ => rfl⟩
  | _ => exact ⟨id, id⟩

/-- Settles O24: under a mark nothing changes, otherwise SAMPLE makes one of its moves. -/
theorem sampleFrame : Obligations.SampleFrame := by
  intro s t p h
  rcases exec_next h with ⟨-, rfl⟩ | ⟨-, rfl⟩
  · exact ⟨fun r _ => read_startOutput r s, id, id, rfl, rfl, rfl, rfl, rfl⟩
  · obtain ⟨hcfg, -, -, -, -, -, hrefused, hfaulted, hinput, hout⟩ := sampleEffect_rest p (startOutput s)
    obtain ⟨hclick, hlong⟩ := (sampleEffect_move p (startOutput s)).events_kept
    exact ⟨fun r hr => (read_sampleEffect p _ hr).trans (read_startOutput r s), hclick, hlong, hout, hcfg, hrefused,
      hfaulted, hinput⟩

/-- POLL writes the error event and the brakes level only. -/
theorem read_pollEffect {r : Reg} (v : StatusByte) (s : State) (hr : r ∉ [Reg.evtError, .brakesOn]) :
    r.read (pollEffect v s) = r.read s := by
  rw [pollEffect_eq]
  cases r with
  | evtError | brakesOn => simp at hr
  | _ => rfl

/-- Settles O35: under a mark nothing changes, otherwise POLL has its one effect. -/
theorem pollFrame : Obligations.PollFrame := by
  intro s t v h
  rcases exec_next h with ⟨-, rfl⟩ | ⟨-, rfl⟩
  · exact ⟨fun r _ => read_startOutput r s, id, rfl, rfl, rfl, rfl, rfl⟩
  · refine ⟨fun r hr => (read_pollEffect v _ hr).trans (read_startOutput r s), ?_⟩
    rw [effectOf, pollEffect_eq]
    exact ⟨fun he => by simp [he], rfl, rfl, rfl, rfl, rfl⟩

/-- STEP writes the active states, the history and the in-events only. -/
theorem read_stepEffect {r : Reg} {s : State} (hc : s.codesLegal = true)
    (hr : r ∉ [Reg.conf0, .conf1, .hist, .evtError, .evtClick, .evtLong]) : r.read (stepEffect s) = r.read s := by
  obtain ⟨h1, h4, -, -⟩ := (codesLegal_iff s).mp hc
  obtain ⟨-, hbrakes, hshift, hpressed, hrun, hruns, hlong, -⟩ := stepEffect_rest s h1 h4
  cases r with
  | brakesOn => exact congrArg Bool.toNat hbrakes
  | btnShift => exact hshift
  | btnPressed => exact congrArg Bool.toNat hpressed
  | btnRun => exact hrun
  | btnRuns => exact hruns
  | btnLong => exact congrArg Bool.toNat hlong
  | _ => simp at hr

/-- Settles O47: under a mark nothing changes, otherwise STEP has its effect, on legal codes. -/
theorem stepFrame : Obligations.StepFrame := by
  intro s t h
  rcases exec_next h with ⟨-, rfl⟩ | ⟨⟨-, -, hc⟩, rfl⟩
  · exact ⟨fun r _ => read_startOutput r s, rfl, rfl, rfl, rfl⟩
  · exact ⟨fun r hr => (read_stepEffect (s := startOutput s) hc hr).trans (read_startOutput r s),
      effectOf_rest .step (s := startOutput s) hc⟩

/-! ## The events (R25, R52) -/

/-- Only STEP's effect loses a pending event. -/
theorem effectOf_events_kept {i : Instr} (s : State) (hi : i ≠ .step) :
    (s.evtError = true → (effectOf i s).evtError = true) ∧ (s.evtClick = true → (effectOf i s).evtClick = true) ∧
    (s.evtLong = true → (effectOf i s).evtLong = true) := by
  cases i with
  | sample p =>
    obtain ⟨-, -, -, -, herror, -⟩ := sampleEffect_rest p s
    exact ⟨herror.trans, (sampleEffect_move p s).events_kept⟩
  | poll v =>
    rw [effectOf, pollEffect_eq]
    exact ⟨fun h => by simp [h], id, id⟩
  | step => exact absurd rfl hi

/-- Settles O52: the effects of SAMPLE and POLL keep the events; STEP's ends with the clear (R107). -/
theorem eventsStayUntilTheNextStep : Obligations.EventsStayUntilTheNextStep := by
  intro s t i h
  rcases exec_next h with ⟨hm, rfl⟩ | ⟨-, rfl⟩
  · exact ⟨fun _ => ⟨id, id, id⟩, fun _ hm' => absurd hm (by simp [hm'])⟩
  · refine ⟨effectOf_events_kept (startOutput s), ?_⟩
    rintro rfl -
    exact ⟨rfl, rfl, rfl⟩

/-! ## The writers (R21, R55) -/

/-- An operation that is not POLL leaves the brakes level and raises no error. -/
theorem effectOf_brakes {i : Instr} {s : State} (hc : s.codesLegal = true) (hi : ∀ v, i ≠ .poll v) :
    (effectOf i s).brakesOn = s.brakesOn ∧ ((effectOf i s).evtError = true → s.evtError = true) := by
  cases i with
  | sample p =>
    obtain ⟨-, -, -, -, herror, hbrakes, -⟩ := sampleEffect_rest p s
    exact ⟨hbrakes, herror.symm.trans⟩
  | poll v => exact absurd rfl (hi v)
  | step =>
    obtain ⟨h1, h4, -, -⟩ := (codesLegal_iff s).mp hc
    obtain ⟨-, hbrakes, -⟩ := stepEffect_rest s h1 h4
    exact ⟨hbrakes, by simp [effectOf, stepEffect]⟩

/-- An operation that is not SAMPLE leaves the button registers and raises no button event. -/
theorem effectOf_button {i : Instr} {s : State} (hc : s.codesLegal = true) (hi : ∀ p, i ≠ .sample p) :
    ((effectOf i s).btnShift = s.btnShift ∧ (effectOf i s).btnPressed = s.btnPressed ∧
      (effectOf i s).btnRun = s.btnRun ∧ (effectOf i s).btnRuns = s.btnRuns ∧ (effectOf i s).btnLong = s.btnLong) ∧
    ((effectOf i s).evtClick = true → s.evtClick = true) ∧ ((effectOf i s).evtLong = true → s.evtLong = true) := by
  cases i with
  | sample p => exact absurd rfl (hi p)
  | poll v =>
    rw [effectOf, pollEffect_eq]
    exact ⟨⟨rfl, rfl, rfl, rfl, rfl⟩, id, id⟩
  | step =>
    obtain ⟨h1, h4, -, -⟩ := (codesLegal_iff s).mp hc
    obtain ⟨-, -, hshift, hpressed, hrun, hruns, hlong, -⟩ := stepEffect_rest s h1 h4
    exact ⟨⟨hshift, hpressed, hrun, hruns, hlong⟩, by simp [effectOf, stepEffect], by simp [effectOf, stepEffect]⟩

/-- However a word that is not STEP is taken, the active states, the history and the pending events stay. -/
theorem Took.kept_unless_step {s t : State} {w : CommandWord} (h : Took s (.command w) t) (hw : decode w ≠ .ok .step) :
    (t.conf0 = s.conf0 ∧ t.conf1 = s.conf1 ∧ t.hist = s.hist) ∧
    (s.evtError = true → t.evtError = true) ∧ (s.evtClick = true → t.evtClick = true) ∧
    (s.evtLong = true → t.evtLong = true) := by
  cases h with
  | performed _ i _ hd =>
    have hi : i ≠ .step := fun e => hw (e ▸ hd)
    exact ⟨effectOf_regions (startOutput s) hi, effectOf_events_kept (startOutput s) hi⟩
  | _ => exact ⟨⟨rfl, rfl, rfl⟩, id, id, id⟩

/-- However a word that is not POLL is taken, the brakes level stays and no error is raised. -/
theorem Took.kept_unless_poll {s t : State} {w : CommandWord} (h : Took s (.command w) t)
    (hw : ∀ v, decode w ≠ .ok (.poll v)) :
    t.brakesOn = s.brakesOn ∧ (t.evtError = true → s.evtError = true) := by
  cases h with
  | performed _ i hr hd =>
    obtain ⟨-, -, hc⟩ := hr
    exact effectOf_brakes (s := startOutput s) hc fun v e => hw v (e ▸ hd)
  | _ => exact ⟨rfl, id⟩

/-- However a word that is not SAMPLE is taken, the button registers stay and no button event is raised. -/
theorem Took.kept_unless_sample {s t : State} {w : CommandWord} (h : Took s (.command w) t)
    (hw : ∀ p, decode w ≠ .ok (.sample p)) :
    (t.btnShift = s.btnShift ∧ t.btnPressed = s.btnPressed ∧ t.btnRun = s.btnRun ∧ t.btnRuns = s.btnRuns ∧
      t.btnLong = s.btnLong) ∧
    (t.evtClick = true → s.evtClick = true) ∧ (t.evtLong = true → s.evtLong = true) := by
  cases h with
  | performed _ i hr hd =>
    obtain ⟨-, -, hc⟩ := hr
    exact effectOf_button (s := startOutput s) hc fun p e => hw p (e ▸ hd)
  | _ => exact ⟨⟨rfl, rfl, rfl, rfl, rfl⟩, id, id⟩

/-- Settles O13: each clause by what stays when the word is not the writer's. -/
theorem eachRegisterHasOneWriter : Obligations.EachRegisterHasOneWriter := by
  intro s t w rest hin h
  have htook := took_of_step hin h
  refine ⟨?regions, ?brakes, ?button, ?error, ?buttonEvents, ?cleared⟩ <;> intro hchanged <;> by_contra hw
  case regions =>
    obtain ⟨⟨h0, h1, hh⟩, -⟩ := htook.kept_unless_step hw
    simp [h0, h1, hh] at hchanged
  case brakes =>
    obtain ⟨hbrakes, -⟩ := htook.kept_unless_poll (not_exists.mp hw)
    exact hchanged hbrakes
  case button =>
    obtain ⟨⟨hshift, hpressed, hrun, hruns, hlong⟩, -⟩ := htook.kept_unless_sample (not_exists.mp hw)
    simp [hshift, hpressed, hrun, hruns, hlong] at hchanged
  case error =>
    obtain ⟨-, herror⟩ := htook.kept_unless_poll (not_exists.mp hw)
    obtain ⟨hs, ht⟩ := hchanged
    exact Bool.false_ne_true (hs.symm.trans (herror ht))
  case buttonEvents =>
    obtain ⟨-, hclick, hlong⟩ := htook.kept_unless_sample (not_exists.mp hw)
    rcases hchanged with ⟨hs, ht⟩ | ⟨hs, ht⟩
    · exact Bool.false_ne_true (hs.symm.trans (hclick ht))
    · exact Bool.false_ne_true (hs.symm.trans (hlong ht))
  case cleared =>
    obtain ⟨-, herror, hclick, hlong⟩ := htook.kept_unless_step hw
    rcases hchanged with ⟨hs, ht⟩ | ⟨hs, ht⟩ | ⟨hs, ht⟩
    · exact Bool.false_ne_true (ht.symm.trans (herror hs))
    · exact Bool.false_ne_true (ht.symm.trans (hclick hs))
    · exact Bool.false_ne_true (ht.symm.trans (hlong hs))

/-! ## POLL twice (R49) -/

/-- A second POLL of the same status finds what the first one wrote. -/
theorem pollEffect_idem (v : StatusByte) (s : State) : pollEffect v (pollEffect v s) = pollEffect v s := by
  simp [pollEffect_eq]

/-- Settles O33: POLL writes no mark, configuration or code, so the second one is performed too, from an output list that
is still empty. -/
theorem pollIsIdempotent : Obligations.PollIsIdempotent := by
  intro s v hr
  have he : pollEffect v (startOutput s) = startOutput (pollEffect v (startOutput s)) := by
    simp [pollEffect_eq, startOutput]
  have hr' : Ready (pollEffect v (startOutput s)) := by rwa [pollEffect_eq]
  refine ⟨pollEffect v (startOutput s), exec_of_ready (.poll v) hr, ?_⟩
  rw [exec_of_ready _ hr', effectOf, ← he, pollEffect_idem]

end Sys2Proof.Machine
end

section
/-!
PROOFS of the state statements (10_state.md), continued: the shift register (R27), what is read off it (R32), the host's wait
(R136) and the identification run (R83). Operations that come one after another are performed because each effect keeps the
block ready.
-/

namespace Sys2Proof.Machine

/-! ## One operation after another -/

/-- Every operation's effect leaves the block ready for the next operation. -/
theorem effectOf_ready (i : Instr) {s : State} (h : Ready s) : Ready (effectOf i s) := by
  obtain ⟨hm, hl, hc⟩ := h
  obtain ⟨hcfg, hrefused, hfaulted, -⟩ := effectOf_rest i hc
  exact ⟨by rwa [State.marked, hrefused, hfaulted], by rwa [hcfg], effectOf_codesLegal i hc⟩

/-- In a ready state with the whole invariant any list of operations completes, in a state with the invariant. -/
theorem operationsFrom_of_ready (is : List Instr) {s : State} (hr : Ready s) (hs : BlockInv s) :
    ∃ u, operationsFrom is s = some u ∧ BlockInv u ∧ u.cfg = s.cfg := by
  induction is generalizing s with
  | nil => exact ⟨s, rfl, hs, rfl⟩
  | cons i is ih =>
    obtain ⟨u, hu, hinv, hcfg⟩ :=
      ih (effectOf_ready i (s := startOutput s) hr) (effectOf_blockInv i (s := startOutput s) hs)
    have ⟨_, _, hc⟩ := hr
    obtain ⟨hcfg', -⟩ := effectOf_rest i (s := startOutput s) hc
    exact ⟨u, by rw [operationsFrom_cons (exec_of_ready i hr), hu], hinv, hcfg.trans hcfg'⟩

/-! ## The shift register (R27, R76) -/

/-- SAMPLE leaves the shifted register, whatever move it makes. -/
theorem SampleMove.btnShift_eq {s t : State} {b : Bool} {sh : Nat} (m : SampleMove s b sh t) : t.btnShift = sh := by
  cases m <;> rfl

/-- Settles O17, by the bits of the shifted register. -/
theorem sampleShiftsTheRegister : Obligations.SampleShiftsTheRegister := by
  intro s p hr
  have ⟨_, hl, _⟩ := hr
  obtain ⟨hn, -⟩ := (legal_iff _).mp hl
  have hshift := (sampleEffect_move p (startOutput s)).btnShift_eq
  refine ⟨_, exec_of_ready (.sample p) hr, ?_⟩
  rw [effectOf, hshift]
  exact ⟨shiftIn_lt _ _ _, shiftIn_testBit_zero hn _ _, fun k hk => by
    rw [shiftIn_testBit_succ, startOutput_cfg, startOutput_btnShift, decide_eq_true hk, Bool.true_and]⟩

/-! ## No press in progress (R32, R136) -/

/-- No press in progress (R32), spelled out. -/
theorem pressInProgress_eq_false_iff (s : State) :
    pressInProgress s = false ↔ s.btnPressed = false ∧ s.btnShift = 0 := by
  simp [pressInProgress]

/-- Under the invariant no press is in progress exactly when all N samples in the register are not pressed: a pressed button
has a register that is not 0 (decision D12). -/
theorem BlockInv.no_press_iff {s : State} (h : BlockInv s) :
    pressInProgress s = false ↔ ∀ k < s.cfg.n, s.btnShift.testBit k = false := by
  rw [pressInProgress_eq_false_iff]
  obtain ⟨-, -, -, -, -, ⟨hlt, -⟩, hpressed, -⟩ := h
  constructor
  · rintro ⟨-, hzero⟩ k -
    rw [hzero, Nat.zero_testBit]
  · intro hbits
    have hzero : s.btnShift = 0 := Nat.eq_of_testBit_eq fun k => by
      rw [Nat.zero_testBit]
      rcases Nat.lt_or_ge k s.cfg.n with hk | hk
      · exact hbits k hk
      · exact Nat.testBit_lt_two_pow (Nat.lt_of_lt_of_le hlt (Nat.pow_le_pow_right (by decide) hk))
    exact ⟨Bool.eq_false_iff.mpr fun hp => hpressed hp hzero, hzero⟩

/-- Settles O29, by the invariant after the SAMPLE and, for a pressed sample, by bit 0. -/
theorem pressInProgressFollowsTheRegister : Obligations.PressInProgressFollowsTheRegister := by
  intro s p hr hs
  have ⟨_, hl, _⟩ := hr
  obtain ⟨hn, -⟩ := (legal_iff _).mp hl
  have hinv : BlockInv (sampleEffect p (startOutput s)) := sampleEffect_blockInv p hs
  obtain ⟨hcfg, -⟩ := sampleEffect_rest p (startOutput s)
  have hiff := hinv.no_press_iff
  rw [hcfg, startOutput_cfg] at hiff
  refine ⟨_, exec_of_ready (.sample p) hr, hiff, fun hp => ?_⟩
  rw [← Bool.not_eq_false]
  intro hnone
  have hbit := hiff.mp hnone 0 hn
  rw [(sampleEffect_move p (startOutput s)).btnShift_eq, shiftIn_testBit_zero (c := (startOutput s).cfg) hn] at hbit
  exact of_decide_eq_false hbit hp

/-- Settles O60: the wait is judged in a state that has the invariant again, under the same configuration. -/
theorem waitIsHonouredOnlyWithNoPress : Obligations.WaitIsHonouredOnlyWithNoPress := by
  intro s is hr hs
  have ⟨_, _, hc⟩ := hr
  obtain ⟨u, hu, hinv, hcfg⟩ :=
    operationsFrom_of_ready is (effectOf_ready .step (s := startOutput s) hr) (stepEffect_blockInv (s := startOutput s) hs)
  obtain ⟨hcfg', -⟩ := effectOf_rest .step (s := startOutput s) hc
  refine ⟨_, u, exec_of_ready .step hr, hu, fun c _ => ?_⟩
  rw [mayHonourWait_iff, hinv.no_press_iff, hcfg, hcfg', startOutput_cfg]

/-! ## The identification run (R83) -/

/-- What holds after `j` SAMPLEs from RESET: `j` samples fill `j` bits; a press took N of them, so its run is at most `j - N`
long and its first sample has moved up at most `j - N` places. -/
structure Identifying (c : Cfg) (j : Nat) (s : State) : Prop where
  cfg_eq : s.cfg = c
  ready : Ready s
  shift_lt : s.btnShift < 2 ^ j
  held : s.btnPressed = true → s.btnRun + c.n ≤ j ∧ ∃ k, k + c.n ≤ j ∧ s.btnShift.testBit k = true

/-- After RESET no sample has been taken. -/
theorem identifying_resetWith {c : Cfg} (h : c.legal = true) : Identifying c 0 (State.resetWith c) :=
  ⟨rfl, ⟨rfl, h, rfl⟩, Nat.one_pos, by simp⟩

/-- Clearing the events touches nothing the identification reads. -/
theorem Identifying.after_clearEvents {c : Cfg} {j : Nat} {s : State} (h : Identifying c j s) :
    Identifying c j (clearEvents s) :=
  ⟨h.cfg_eq, h.ready, h.shift_lt, h.held⟩

/-- One more sample fills at most one more bit. -/
theorem shiftIn_lt_two_pow_succ {n j : Nat} (c : Cfg) (b : Bool) (h : n < 2 ^ j) : shiftIn c n b < 2 ^ (j + 1) := by
  have hle : shiftIn c n b ≤ 2 * n + b.toNat := Nat.mod_le _ _
  have hb : b.toNat ≤ 1 := Bool.toNat_le b
  rw [pow_succ]
  omega

/-- A register of N ones holds N samples. -/
theorem le_of_allPressed_lt {c : Cfg} {j : Nat} (h : allPressed c < 2 ^ j) : c.n ≤ j :=
  (Nat.pow_le_pow_iff_right (by decide)).mp (Nat.le_of_pred_lt h)

/-- A set bit moves up one place, if there is one. -/
theorem shiftIn_testBit_of_testBit {c : Cfg} {n k : Nat} (b : Bool) (hk : k + 1 < c.n) (h : n.testBit k = true) :
    (shiftIn c n b).testBit (k + 1) = true := by
  rw [shiftIn_testBit_succ, h, decide_eq_true hk, Bool.and_self]

/-- A SAMPLE before the 2N-th raises no event: the register still holds the sample of the press, and the run is shorter
than L, which exceeds N (R8, R83). -/
theorem SampleMove.identifying {s t : State} {b : Bool} {j : Nat}
    (m : SampleMove s b (shiftIn s.cfg s.btnShift b) t) (h : Identifying s.cfg j s) (hj : j + 1 < 2 * s.cfg.n) :
    t.btnShift < 2 ^ (j + 1) ∧
    (t.btnPressed = true →
      t.btnRun + s.cfg.n ≤ j + 1 ∧ ∃ k, k + s.cfg.n ≤ j + 1 ∧ t.btnShift.testBit k = true) ∧
    t.evtClick = s.evtClick ∧ t.evtLong = s.evtLong := by
  obtain ⟨-, ⟨-, hl, -⟩, hlt, hheld⟩ := h
  obtain ⟨hn, hnl, -⟩ := (legal_iff _).mp hl
  have hlt' : t.btnShift < 2 ^ (j + 1) := m.btnShift_eq ▸ shiftIn_lt_two_pow_succ s.cfg b hlt
  have hmoved : s.btnPressed = true →
      ∃ k, k + s.cfg.n ≤ j + 1 ∧ (shiftIn s.cfg s.btnShift b).testBit k = true := by
    intro hp
    obtain ⟨-, k, hk, hbit⟩ := hheld hp
    exact ⟨k + 1, by omega, shiftIn_testBit_of_testBit b (by omega) hbit⟩
  refine ⟨hlt', ?_⟩
  cases m with
  | press hp hsh =>
    have hle : s.cfg.n ≤ j + 1 := le_of_allPressed_lt (hsh ▸ hlt')
    refine ⟨fun _ => ⟨by simpa using hle, 0, by simpa using hle, ?_⟩, rfl, rfl⟩
    simp only [hsh, allPressed, Nat.testBit_two_pow_sub_one, decide_eq_true_eq]
    exact hn
  | released hp => exact ⟨by simp [hp], rfl, rfl⟩
  | release hp hsh =>
    obtain ⟨k, -, hbit⟩ := hmoved hp
    simp [hsh] at hbit
  | latched hp | broken hp | counted hp =>
    obtain ⟨hrun, -⟩ := hheld hp
    exact ⟨fun _ => ⟨by dsimp only; omega, hmoved hp⟩, rfl, rfl⟩
  | completed hp | longPress hp =>
    obtain ⟨hrun, -⟩ := hheld hp
    omega

/-- A SAMPLE before the 2N-th completes, raises nothing and is one more sample of the identification. -/
theorem Identifying.after_sample {c : Cfg} {j : Nat} {s : State} (h : Identifying c j s) (p : PinLevel)
    (hj : j + 1 < 2 * c.n) :
    ∃ t, exec (.sample p) s = .next t ∧ Identifying c (j + 1) t ∧ t.evtClick = s.evtClick ∧ t.evtLong = s.evtLong := by
  obtain ⟨rfl, hr, hlt, hheld⟩ := h
  obtain ⟨hcfg, -⟩ := sampleEffect_rest p (startOutput s)
  obtain ⟨hlt', hheld', hclick, hlong⟩ :=
    (sampleEffect_move p (startOutput s)).identifying ⟨rfl, hr, hlt, hheld⟩ hj
  exact ⟨_, exec_of_ready (.sample p) hr,
    ⟨hcfg, effectOf_ready (.sample p) (s := startOutput s) hr, hlt', hheld'⟩, hclick, hlong⟩

/-- Samples that end before the 2N-th all complete and leave the button events as they were. -/
theorem Identifying.samplesFrom_completes {c : Cfg} {j : Nat} {s : State} (h : Identifying c j s) (ps : List PinLevel)
    (hj : j + ps.length < 2 * c.n) :
    ∃ t, samplesFrom ps s = some t ∧ t.evtClick = s.evtClick ∧ t.evtLong = s.evtLong := by
  induction ps generalizing s j with
  | nil => exact ⟨s, rfl, rfl, rfl⟩
  | cons p ps ih =>
    rw [List.length_cons] at hj
    obtain ⟨t, ht, hid, hclick, hlong⟩ := h.after_sample p (by omega)
    obtain ⟨u, hu, hclick', hlong'⟩ := ih hid (by omega)
    exact ⟨u, by simp only [samplesFrom, ht, hu], hclick'.trans hclick, hlong'.trans hlong⟩

/-- Samples that end before the 2N-th raise no button event. -/
theorem Identifying.eventsRaised_eq_nil {c : Cfg} {j : Nat} {s : State} (h : Identifying c j s) (ps : List PinLevel)
    (hj : j + ps.length < 2 * c.n) : eventsRaised ps s = [] := by
  induction ps generalizing s j with
  | nil => rfl
  | cons p ps ih =>
    rw [List.length_cons] at hj
    obtain ⟨t, ht, hid, hclick, hlong⟩ := h.after_clearEvents.after_sample p (by omega)
    simp [eventsRaised, ht, buttonEvents, hclick, hlong, ih hid (by omega)]

/-- Settles O26, from the state after RESET. -/
theorem identificationRunRaisesNothing : Obligations.IdentificationRunRaisesNothing := by
  intro c ps hl hlen
  have hid := identifying_resetWith hl
  rw [← Nat.zero_add ps.length] at hlen
  exact ⟨hid.eventsRaised_eq_nil ps hlen, hid.samplesFrom_completes ps hlen⟩

end Sys2Proof.Machine
end

section
/-!
PROOFS of the memory statements (20_memory.md): the inputs presented are performed one at a time, in their order (R51).
-/

namespace Sys2Proof.Machine

/-- However an input is taken, the inputs behind it stay presented (R51). -/
theorem Took.input_eq {s t : State} {op : Input} (h : Took s op t) : t.input = s.input := by
  cases h with
  | performed w i hr hd =>
    obtain ⟨-, -, hc⟩ := hr
    obtain ⟨-, -, -, hin⟩ := effectOf_rest i (s := startOutput s) hc
    exact hin
  | _ => rfl

/-- Settles O6: every input is taken in one of the ways of `Took`, and none of them touches the rest of the list. -/
theorem everyStepTakesOneInput : Obligations.EveryStepTakesOneInput := by
  refine ⟨fun s op rest hin => ?_, fun s => step_of_empty⟩
  obtain ⟨t, ht, htook⟩ := perform_took { s with input := rest } op
  exact ⟨t, by rw [step_of_input hin, ht], htook.input_eq⟩

end Sys2Proof.Machine
end

section
/-!
PROOFS of the encoding statements (30_encoding.md). A word is read through the quotients and remainders of its number: the
fields of R58, the words `encode` builds and the masks of R66 are each said so once. Decoding then follows from three facts:
a reserved word is refused, the word of an operation decodes to it, and a word that is not reserved is the word of one.
-/

namespace Sys2Proof

/-! ## Fields, encoded words and masks as numbers -/

theorem opField_toNat (w : CommandWord) : (opField w).toNat = w.toNat / 2 ^ 14 := by
  have hw : w.toNat < 2 ^ 16 := w.isLt
  rw [opField, BitVec.extractLsb'_toNat, Nat.shiftRight_eq_div_pow]
  omega

theorem rsvField_toNat (w : CommandWord) : (rsvField w).toNat = w.toNat / 2 ^ 8 % 2 ^ 6 := by
  rw [rsvField, BitVec.extractLsb'_toNat, Nat.shiftRight_eq_div_pow]

theorem opndField_toNat (w : CommandWord) : (opndField w).toNat = w.toNat % 2 ^ 8 := by
  rw [opndField, BitVec.extractLsb'_toNat, Nat.shiftRight_zero]

/-- SAMPLE's operand bit `opnd[0]` (R60). -/
theorem opndField_low_toNat (w : CommandWord) : ((opndField w).extractLsb' 0 1).toNat = w.toNat % 2 := by
  rw [BitVec.extractLsb'_toNat, opndField_toNat, Nat.shiftRight_zero]
  omega

/-- SAMPLE's reserved bits `opnd[7:1]` (R63). -/
theorem opndField_high_toNat (w : CommandWord) : ((opndField w).extractLsb' 1 7).toNat = w.toNat % 2 ^ 8 / 2 := by
  rw [BitVec.extractLsb'_toNat, opndField_toNat, Nat.shiftRight_eq_div_pow]
  omega

theorem encode_sample_toNat (p : PinLevel) : (encode (.sample p)).toNat = 2 ^ 14 + p.toNat := by
  have hp : p.toNat < 2 ^ 1 := p.isLt
  rw [encode, BitVec.toNat_or, BitVec.toNat_setWidth_of_le (by decide)]
  exact (Nat.two_pow_add_eq_or_of_lt (i := 14) (by omega) 1).symm

theorem encode_poll_toNat (v : StatusByte) : (encode (.poll v)).toNat = 2 ^ 15 + v.toNat := by
  have hv : v.toNat < 2 ^ 8 := v.isLt
  rw [encode, BitVec.toNat_or, BitVec.toNat_setWidth_of_le (by decide)]
  exact (Nat.two_pow_add_eq_or_of_lt (i := 15) (by omega) 1).symm

theorem encode_step_toNat : (encode .step).toNat = 2 ^ 15 + 2 ^ 14 := rfl

/-- A mask of high ones clears the bits below them. -/
theorem and_highOnes_toNat {n : Nat} (w : BitVec n) (k : Nat) :
    (w &&& BitVec.allOnes n <<< k).toNat = w.toNat / 2 ^ k * 2 ^ k := by
  rw [← BitVec.shiftLeft_ushiftRight, BitVec.toNat_shiftLeft, BitVec.toNat_ushiftRight, Nat.shiftRight_eq_div_pow,
    Nat.shiftLeft_eq]
  exact Nat.mod_eq_of_lt (Nat.lt_of_le_of_lt (Nat.div_mul_le_self _ _) w.isLt)

/-- SAMPLE's match and mask (R66). -/
theorem and_sampleMask_iff (w : CommandWord) : w &&& 0xFFFE = 0x4000 ↔ w.toNat / 2 = 2 ^ 13 := by
  rw [← BitVec.toNat_inj, show (0xFFFE : CommandWord) = BitVec.allOnes 16 <<< 1 from rfl, and_highOnes_toNat,
    show (0x4000 : CommandWord).toNat = 2 ^ 14 from rfl]
  omega

/-- POLL's match and mask (R66). -/
theorem and_pollMask_iff (w : CommandWord) : w &&& 0xFF00 = 0x8000 ↔ w.toNat / 2 ^ 8 = 2 ^ 7 := by
  rw [← BitVec.toNat_inj, show (0xFF00 : CommandWord) = BitVec.allOnes 16 <<< 8 from rfl, and_highOnes_toNat,
    show (0x8000 : CommandWord).toNat = 2 ^ 15 from rfl]
  omega

/-! ## Reserved words -/

/-- The reserved words of R63, told by quotient and remainder. -/
abbrev ReservedWord (w : CommandWord) : Prop :=
  w.toNat / 2 ^ 14 = 0 ∨ w.toNat / 2 ^ 8 % 2 ^ 6 ≠ 0 ∨ (w.toNat / 2 ^ 14 = 1 ∧ w.toNat % 2 ^ 8 / 2 ≠ 0) ∨
    (w.toNat / 2 ^ 14 = 3 ∧ w.toNat % 2 ^ 8 ≠ 0)

/-- The reserved words of R63, told by the fields of R58. -/
theorem reservedWord_iff_fields (w : CommandWord) :
    ReservedWord w ↔
      opField w = 0 ∨ rsvField w ≠ 0 ∨ (opField w = 1 ∧ (opndField w).extractLsb' 1 7 ≠ 0) ∨
        (opField w = 3 ∧ opndField w ≠ 0) := by
  simp only [ne_eq, ← BitVec.toNat_inj, opField_toNat, rsvField_toNat, opndField_high_toNat, opndField_toNat]
  rfl

theorem decode_of_reserved {w : CommandWord} (h : ReservedWord w) : decode w = .error .reservedEncoding := by
  rcases (reservedWord_iff_fields w).mp h with hop | hrsv | ⟨hop, hhigh⟩ | ⟨hop, hopnd⟩
  · simp [decode, hop]
  · rw [decode, if_pos hrsv]
  · simpa [decode, hop] using fun _ => hhigh
  · simpa [decode, hop] using fun _ => hopnd

/-! ## Decode and encode -/

/-- The fields of SAMPLE's word (R60). -/
theorem fields_encode_sample (p : PinLevel) :
    rsvField (encode (.sample p)) = 0 ∧ opField (encode (.sample p)) = 1 ∧
    (opndField (encode (.sample p))).extractLsb' 1 7 = 0 ∧ (opndField (encode (.sample p))).extractLsb' 0 1 = p := by
  have hp : p.toNat < 2 ^ 1 := p.isLt
  simp only [← BitVec.toNat_inj, opField_toNat, rsvField_toNat, opndField_high_toNat, opndField_low_toNat,
    encode_sample_toNat]
  bv_omega

/-- The fields of POLL's word (R61). -/
theorem fields_encode_poll (v : StatusByte) :
    rsvField (encode (.poll v)) = 0 ∧ opField (encode (.poll v)) = 2 ∧ opndField (encode (.poll v)) = v := by
  have hv : v.toNat < 2 ^ 8 := v.isLt
  simp only [← BitVec.toNat_inj, opField_toNat, rsvField_toNat, opndField_toNat, encode_poll_toNat]
  bv_omega

theorem decode_encode (i : Instr) : decode (encode i) = .ok i := by
  cases i with
  | sample p =>
    obtain ⟨hrsv, hop, hhigh, hbit⟩ := fields_encode_sample p
    simp [decode, hrsv, hop, hhigh, hbit]
  | poll v =>
    obtain ⟨hrsv, hop, hopnd⟩ := fields_encode_poll v
    simp [decode, hrsv, hop, hopnd]
  | step => rfl

/-- A word that is not reserved is the word of the operation its selector names. -/
theorem exists_encode_eq {w : CommandWord} (h : ¬ReservedWord w) : ∃ i, encode i = w := by
  have hw : w.toNat < 2 ^ 16 := w.isLt
  have hop : w.toNat / 2 ^ 14 = 1 ∨ w.toNat / 2 ^ 14 = 2 ∨ w.toNat / 2 ^ 14 = 3 := by omega
  rcases hop with hop | hop | hop
  · refine ⟨.sample ((opndField w).extractLsb' 0 1), BitVec.eq_of_toNat_eq ?_⟩
    rw [encode_sample_toNat, opndField_low_toNat]
    omega
  · refine ⟨.poll (opndField w), BitVec.eq_of_toNat_eq ?_⟩
    rw [encode_poll_toNat, opndField_toNat]
    omega
  · refine ⟨.step, BitVec.eq_of_toNat_eq ?_⟩
    rw [encode_step_toNat]
    omega

/-- A word that decodes is not reserved, so it is some operation's word, and that operation's only. -/
theorem decode_eq_ok_iff (w : CommandWord) (i : Instr) : decode w = .ok i ↔ encode i = w := by
  constructor
  · intro hd
    have hr : ¬ReservedWord w := fun hr => by simp [decode_of_reserved hr] at hd
    obtain ⟨j, rfl⟩ := exists_encode_eq hr
    rw [Except.ok.inj ((decode_encode j).symm.trans hd)]
  · rintro rfl
    exact decode_encode i

/-- A word is refused exactly when it is reserved (R63). -/
theorem decode_eq_error_iff (w : CommandWord) : decode w = .error .reservedEncoding ↔ ReservedWord w := by
  refine ⟨fun hd => ?_, decode_of_reserved⟩
  by_contra hr
  obtain ⟨i, rfl⟩ := exists_encode_eq hr
  simp [decode_encode] at hd

/-- Settles O2, by the word each operation has. -/
theorem decodeAndEncodeAgree : Obligations.DecodeAndEncodeAgree :=
  ⟨decode_encode, fun w i => (decode_eq_ok_iff w i).mp⟩

/-! ## Match and mask -/

/-- SAMPLE's match, mask and operand bit (R60, R66). -/
theorem decode_eq_sample_iff (w : CommandWord) (p : PinLevel) :
    decode w = .ok (.sample p) ↔ w &&& 0xFFFE = 0x4000 ∧ p.getLsbD 0 = w.getLsbD 0 := by
  have hp : p.toNat < 2 ^ 1 := p.isLt
  rw [decode_eq_ok_iff, ← BitVec.toNat_inj, encode_sample_toNat, and_sampleMask_iff, BitVec.getLsbD, BitVec.getLsbD,
    Nat.testBit_zero, Nat.testBit_zero, decide_eq_decide]
  omega

/-- POLL's match, mask and operand byte (R61, R66). -/
theorem decode_eq_poll_iff (w : CommandWord) (v : StatusByte) :
    decode w = .ok (.poll v) ↔ w &&& 0xFF00 = 0x8000 ∧ v.toNat = w.toNat % 256 := by
  have hv : v.toNat < 2 ^ 8 := v.isLt
  rw [decode_eq_ok_iff, ← BitVec.toNat_inj, encode_poll_toNat, and_pollMask_iff]
  omega

/-- STEP's one word (R62, R66). -/
theorem decode_eq_step_iff (w : CommandWord) : decode w = .ok .step ↔ w = 0xC000 :=
  (decode_eq_ok_iff w .step).trans eq_comm

/-- The number of STEP's word. -/
theorem eq_stepWord_iff (w : CommandWord) : w = 0xC000 ↔ w.toNat = 2 ^ 15 + 2 ^ 14 := by
  rw [← BitVec.toNat_inj]
  rfl

/-- Settles O3: the patterns by the operations' words, the refusal and the disjointness by the words' numbers. -/
theorem decodeIsMatchAndMask : Obligations.DecodeIsMatchAndMask := by
  intro w
  have hw : w.toNat < 2 ^ 16 := w.isLt
  refine ⟨decode_eq_sample_iff w, decode_eq_poll_iff w, decode_eq_step_iff w, ?_⟩
  rw [decode_eq_error_iff, and_sampleMask_iff, and_pollMask_iff, eq_stepWord_iff]
  omega

/-! ## The 259 legal words -/

/-- Every value of an operand `n` bits wide. -/
def allOperands (n : Nat) : List (BitVec n) := (List.finRange (2 ^ n)).map .ofFin

@[simp] theorem mem_allOperands {n : Nat} (x : BitVec n) : x ∈ allOperands n :=
  List.mem_map.mpr ⟨x.toFin, List.mem_finRange _, rfl⟩

theorem nodup_allOperands (n : Nat) : (allOperands n).Nodup :=
  (List.nodup_finRange _).map fun _ _ => BitVec.ofFin.inj

@[simp] theorem length_allOperands (n : Nat) : (allOperands n).length = 2 ^ n := by
  rw [allOperands, List.length_map, List.length_finRange]

/-- Every operation with every operand: 2 SAMPLEs, 256 POLLs and STEP (R60 to R62). -/
def allOperations : List Instr := .step :: ((allOperands 1).map .sample ++ (allOperands 8).map .poll)

theorem mem_allOperations (i : Instr) : i ∈ allOperations := by
  cases i <;> simp [allOperations]

theorem nodup_allOperations : allOperations.Nodup := by
  have hsample := (nodup_allOperands 1).map fun _ _ => Instr.sample.inj
  have hpoll := (nodup_allOperands 8).map fun _ _ => Instr.poll.inj
  simp [allOperations, List.nodup_append, hsample, hpoll]

theorem length_allOperations : allOperations.length = 259 := by
  simp [allOperations]

/-- Different operations have different words. -/
theorem encode_injective : Function.Injective encode := fun i j h =>
  Except.ok.inj ((decode_encode i).symm.trans ((congrArg decode h).trans (decode_encode j)))

/-- Settles O4 with the words of all operations. -/
theorem exactlyLegalWordsDecode : Obligations.ExactlyLegalWordsDecode := by
  refine ⟨allOperations.map encode, nodup_allOperations.map encode_injective, ?_, fun w => ?_⟩
  · rw [List.length_map, length_allOperations]
  · simp [decode_eq_ok_iff, mem_allOperations]

/-! ## Words written out -/

/-- Settles O1: the taken words are words of operations, the others are reserved. -/
theorem wordsFromTheEncodingDecode : Obligations.WordsFromTheEncodingDecode :=
  ⟨decode_encode (.sample 0), decode_encode (.sample 1), decode_encode (.poll 0x00), decode_encode (.poll 0xFF),
    decode_encode (.poll 0x40), decode_encode .step, decode_of_reserved (by decide), decode_of_reserved (by decide),
    decode_of_reserved (by decide), decode_of_reserved (by decide)⟩

end Sys2Proof
end

section
/-!
PROOFS of the encoding statements (30_encoding.md), continued: what a reserved word does to the block (R63), what POLL reads of
its operand (R61), and the output lists of STEP (R64, R65).
-/

namespace Sys2Proof.Machine

/-! ## A reserved word -/

/-- With no mark set a reserved word is refused before anything else is looked at (R63; log entry 6). -/
theorem perform_of_reserved {s : State} {w : CommandWord} (hm : s.marked = false) (hw : ReservedWord w) :
    perform (.command w) s = .refused .reservedEncoding := by
  simp [perform, presentWord, hm, decode_of_reserved hw]

/-- Settles O7: the refusal, and its record in the mark (R129). -/
theorem reservedWordIsRefused : Obligations.ReservedWordIsRefused := by
  intro s w rest hin hm hw
  refine ⟨perform_of_reserved hm hw, ?_⟩
  rw [step_of_input hin, perform_of_reserved (s := { s with input := rest }) hm hw]
  rfl

/-! ## POLL's operand -/

/-- Two effects that agree on the state an operation starts from give the same outcome. -/
theorem operate_congr {f g : State → State} {s : State} (h : f (startOutput s) = g (startOutput s)) :
    operate f s = operate g s := by
  simp [operate, h]

/-- Settles O34: the effect of POLL names the status by the two configured bits only. -/
theorem pollReadsTwoBits : Obligations.PollReadsTwoBits := by
  intro s v w hawake herror
  rw [exec_eq, exec_eq]
  refine operate_congr ?_
  simp [effectOf, pollEffect_eq, hawake, herror]

/-! ## The outputs of STEP -/

/-- What slot 1 can emit, by the value of `conf1` it finds (R104 to R106). -/
theorem SlotOneMove.output_cases {a c : BitVec 2} {b : Bool} {o : List ActuatorCall} (m : SlotOneMove a b c o) :
    o = [] ∨ (o = [.taillightsBright] ∧ a = 2) ∨ (o = [.taillightsDim] ∧ a = 1) := by
  cases m <;> simp

/-- Outside Running slot 1 emits nothing: region 1 is not active then (R35). -/
theorem SlotOneMove.output_eq_nil {a c : BitVec 2} {b : Bool} {o : List ActuatorCall} (m : SlotOneMove a b c o)
    (ha : ¬(a = 1 ∨ a = 2)) : o = [] := by
  rcases m.output_cases with hnil | ⟨-, h2⟩ | ⟨-, h1⟩
  · exact hnil
  · exact absurd (.inr h2) ha
  · exact absurd (.inl h1) ha

/-- The outputs of the two slots together are a listed one (R120): after an entry slot 1 can only brighten, with region 1 not
active it is silent, and in Running it can do either. -/
theorem SlotZeroMove.output_mem {s : State} {c0 : BitVec 3} {c1 h c1' : BitVec 2} {o o' : List ActuatorCall}
    (m : SlotZeroMove s c0 c1 h o) (m' : SlotOneMove c1 s.brakesOn c1' o') (hr : RegionInv s) :
    o ++ o' ∈ possibleOutputs := by
  have hout := m'.output_cases
  rw [RegionInv, Running] at hr
  cases m with
  | enterOff | enterOn =>
    rcases hout with rfl | ⟨rfl, -⟩ | ⟨-, hdim⟩
    · decide
    · decide
    · exact absurd hdim (by decide)
  | waitIdle h0 | recover h0 =>
    rw [m'.output_eq_nil (by rw [← hr, h0]; decide)]
    decide
  | stopOn | stopOff | errorOn | errorOff =>
    rw [m'.output_eq_nil (by decide)]
    decide
  | toggleOff | toggleOn | waitOn | waitOff =>
    rcases hout with rfl | ⟨rfl, -⟩ | ⟨rfl, -⟩ <;> decide

/-- The listed outputs are at most 4 long and hold no `taillights_off`. -/
theorem possibleOutputs_bounds : ∀ o ∈ possibleOutputs, o.length ≤ 4 ∧ ActuatorCall.taillightsOff ∉ o := by decide

/-- Settles O46, by the moves of the two slots. -/
theorem stepOutputIsAListedOne : Obligations.StepOutputIsAListedOne := by
  intro s hr hreg
  have ⟨_, _, hc⟩ := hr
  obtain ⟨h1, h4, -, -⟩ := (codesLegal_iff s).mp hc
  obtain ⟨c0, c1, h, o, c1', o', m0, m1, e⟩ := stepEffect_move (startOutput s) h1 h4
  have hmem : (stepEffect (startOutput s)).out ∈ possibleOutputs := by
    rw [e]
    exact m0.output_mem m1 hreg
  exact ⟨_, exec_of_ready .step hr, hmem, possibleOutputs_bounds _ hmem⟩

end Sys2Proof.Machine
end

section
/-!
PROOFS of the button classifier's statements (40_button_classifier.md R77 to R82, R84, R85). SAMPLE makes exactly one of
the moves of `SampleMove`, so an exact result is proved by naming the move; what several moves have in common is proved by
their cases; the runs of R84 and R85 are inductions along the samples.
-/

namespace Sys2Proof.Machine

/-! ## SAMPLE by its move -/

/-- Only one move is possible: the tests of R74 decide it. -/
theorem SampleMove.classify_eq {s t : State} {b : Bool} {sh : Nat} (m : SampleMove s b sh t) :
    classify b { s with btnShift := sh } = t := by
  cases m with
  | press hp hsh => simp [classify, recognisePress, clearCounters, hp, hsh]
  | released hp hsh => simp [classify, hp, hsh]
  | release hp hsh =>
    cases hlong : s.btnLong <;> simp [classify, recogniseRelease, clearCounters, raiseEvent, hp, hsh]
  | latched hp hsh hlong => simp [classify, hp, hsh, hlong]
  | broken hp hsh hlong hb => simp [classify, breakRun, hp, hsh, hlong, hb]
  | counted hp hsh hlong hb hrun => simp [classify, countPressed, hp, hsh, hlong, hb, hrun]
  | completed hp hsh hlong hb hrun hruns =>
    simp [classify, countPressed, completeRun, hp, hsh, hlong, hb, hrun, hruns]
  | longPress hp hsh hlong hb hrun hruns =>
    simp [classify, countPressed, completeRun, raiseEvent, hp, hsh, hlong, hb, hrun, hruns]

/-- In a ready state SAMPLE leaves what its move leaves, from an empty output list. -/
theorem exec_sample_of_move {s t : State} {p : PinLevel} {b : Bool} {sh : Nat} (hr : Ready s)
    (hb : pressedSample s.cfg p = b) (hsh : shiftIn s.cfg s.btnShift b = sh) (m : SampleMove (startOutput s) b sh t) :
    exec (.sample p) s = .next t := by
  subst hb hsh
  rw [exec_of_ready (.sample p) hr, ← m.classify_eq]
  rfl

/-- In a ready state SAMPLE completes, by one of its moves. -/
theorem exec_sample_move {s : State} (p : PinLevel) {b : Bool} {sh : Nat} (hr : Ready s)
    (hb : pressedSample s.cfg p = b) (hsh : shiftIn s.cfg s.btnShift b = sh) :
    ∃ t, exec (.sample p) s = .next t ∧ SampleMove (startOutput s) b sh t := by
  subst hb hsh
  exact ⟨_, exec_of_ready (.sample p) hr, sampleEffect_move p (startOutput s)⟩

/-- The pin level R75 compares with reads "pressed". -/
theorem pressedSample_of_eq {c : Cfg} {p : PinLevel} (h : p.toNat = c.pressLevel) : pressedSample c p = true :=
  decide_eq_true h

/-- Every other pin level reads "not pressed" (R75). -/
theorem pressedSample_of_ne {c : Cfg} {p : PinLevel} (h : p.toNat ≠ c.pressLevel) : pressedSample c p = false :=
  decide_eq_false h

/-- A pressed sample in the register makes it other than 0. -/
theorem shiftIn_true_ne_zero {c : Cfg} (h : c.legal = true) (n : Nat) : shiftIn c n true ≠ 0 := by
  obtain ⟨hn, -⟩ := (legal_iff c).mp h
  intro hzero
  simpa [hzero] using shiftIn_testBit_zero hn n true

/-! ## What moves have in common -/

/-- A press that the sample does not release is held: no click, at most one run more, and a latch that is set stays. -/
theorem SampleMove.held {s t : State} {b : Bool} {sh : Nat} (m : SampleMove s b sh t) (hp : s.btnPressed = true)
    (hsh : sh ≠ 0) :
    t.btnPressed = true ∧ t.evtClick = s.evtClick ∧ (t.btnRuns = s.btnRuns ∨ t.btnRuns = s.btnRuns + 1) ∧
    (s.btnLong = true → t.btnLong = true) := by
  cases m with
  | press hp' | released hp' => simp [hp] at hp'
  | release _ hsh' => exact absurd hsh' hsh
  | latched | broken | counted => exact ⟨hp, rfl, .inl rfl, id⟩
  | completed => exact ⟨hp, rfl, .inr rfl, id⟩
  | longPress => exact ⟨hp, rfl, .inr rfl, fun _ => rfl⟩

/-- A latched press raises no long-press again and stays latched unless it is released (R82). -/
theorem SampleMove.latch_kept {s t : State} {b : Bool} {sh : Nat} (m : SampleMove s b sh t) (hp : s.btnPressed = true)
    (hlong : s.btnLong = true) : t.evtLong = s.evtLong ∧ (t.btnLong = true ∨ t.btnPressed = false) := by
  cases m with
  | press hp' | released hp' => simp [hp] at hp'
  | release => exact ⟨rfl, .inr rfl⟩
  | latched => exact ⟨rfl, .inl hlong⟩
  | broken _ _ hopen | counted _ _ hopen | completed _ _ hopen | longPress _ _ hopen => simp [hlong] at hopen

/-- Only the M-th completed run changes the long-press event (R79). -/
theorem SampleMove.of_evtLong_ne {s t : State} {b : Bool} {sh : Nat} (m : SampleMove s b sh t)
    (h : t.evtLong ≠ s.evtLong) :
    s.btnPressed = true ∧ s.btnLong = false ∧ b = true ∧ s.btnRun + 1 = s.cfg.l ∧ s.btnRuns + 1 = s.cfg.m ∧
    t.btnLong = true := by
  cases m with
  | longPress hp _ hlong hb hrun hruns => exact ⟨hp, hlong, hb, hrun, hruns, rfl⟩
  | _ => exact absurd rfl h

/-- No move changes both button events: the click comes with a release, the long-press with a press that is held. -/
theorem SampleMove.click_or_long_kept {s t : State} {b : Bool} {sh : Nat} (m : SampleMove s b sh t) :
    t.evtClick = s.evtClick ∨ t.evtLong = s.evtLong := by
  cases m with
  | release => exact .inr rfl
  | _ => exact .inl rfl

/-! ## The rules of one SAMPLE -/

/-- Settles O18: a press, no press yet, or a press that is held. -/
theorem pressIsRecognised : Obligations.PressIsRecognised := by
  intro s p shift hr hshift
  have ⟨_, hl, _⟩ := hr
  refine ⟨fun hp hones => exec_sample_of_move hr rfl hshift.symm (.press hp hones),
    fun hp hones => exec_sample_of_move hr rfl hshift.symm (.released hp hones), fun hp hones => ?_⟩
  obtain ⟨t, ht, m⟩ := exec_sample_move p hr rfl hshift.symm
  exact ⟨t, ht, m.held hp (hones.trans_ne (allPressed_ne_zero hl))⟩

/-- Settles O19: the sample is counted, or it completes a run that is not the M-th. -/
theorem pressedSamplesAreCounted : Obligations.PressedSamplesAreCounted := by
  intro s p hr hp hlong hpin
  have ⟨_, hl, _⟩ := hr
  have hsh := shiftIn_true_ne_zero hl s.btnShift
  have hb := pressedSample_of_eq hpin
  exact ⟨fun hrun => exec_sample_of_move hr hb rfl (.counted hp hsh hlong rfl hrun),
    fun hrun hruns => exec_sample_of_move hr hb rfl (.completed hp hsh hlong rfl hrun hruns)⟩

/-- Settles O20: the move of the M-th run, what a latched press keeps, and the one move that changes the event. -/
theorem longPressIsLatchedOnce : Obligations.LongPressIsLatchedOnce := by
  intro s p hr
  have ⟨_, hl, _⟩ := hr
  obtain ⟨u, hu, m⟩ := exec_sample_move p hr rfl rfl
  refine ⟨fun hp hlong hpin hrun hruns => ?_, fun hp hlong => ⟨u, hu, m.latch_kept hp hlong⟩, fun t ht hne => ?_⟩
  · rw [← hruns]
    exact exec_sample_of_move hr (pressedSample_of_eq hpin) rfl
      (.longPress hp (shiftIn_true_ne_zero hl s.btnShift) hlong rfl hrun hruns)
  · cases hu.symm.trans ht
    obtain ⟨hp, hlong, hb, hrun, hruns, hlatch⟩ := m.of_evtLong_ne hne
    exact ⟨hp, hlong, of_decide_eq_true hb, hrun, hruns, hlatch⟩

/-- Settles O21: the move of the release. -/
theorem releaseRaisesClickUnlessLatched : Obligations.ReleaseRaisesClickUnlessLatched :=
  fun _ _ hr hp hzero => exec_sample_of_move hr rfl hzero (.release hp rfl)

/-- Settles O22: the move that breaks the run. -/
theorem bounceBreaksTheRun : Obligations.BounceBreaksTheRun :=
  fun _ _ hr hp hlong hpin hsh => exec_sample_of_move hr (pressedSample_of_ne hpin) rfl (.broken hp hsh hlong rfl)

/-- Settles O23: the counters by the invariants; then the latched press is held, or released without a click. -/
theorem latchedPressOnlyShifts : Obligations.LatchedPressOnlyShifts := by
  rintro s p shift hr ⟨-, hlatched, -⟩ ⟨-, -, hrun⟩ hlong hshift
  obtain ⟨hp, hruns⟩ := hlatched hlong
  refine ⟨hrun hlong, hruns, fun hsh => exec_sample_of_move hr rfl hshift.symm (.latched hp hsh hlong), fun hzero => ?_⟩
  exact ⟨_, exec_sample_of_move hr rfl hshift.symm (.release hp hzero), rfl, by simp [hlong], rfl⟩

/-- Settles O25: the event that the move did not change is still not pending. -/
theorem sampleRaisesAtMostOneEvent : Obligations.SampleRaisesAtMostOneEvent := by
  intro s p hr hclick hlong
  obtain ⟨t, ht, m⟩ := exec_sample_move p hr rfl rfl
  refine ⟨t, ht, fun ⟨hclick', hlong'⟩ => ?_⟩
  rcases m.click_or_long_kept with hkept | hkept
  · exact Bool.false_ne_true ((hkept.trans hclick).symm.trans hclick')
  · exact Bool.false_ne_true ((hkept.trans hlong).symm.trans hlong')

/-! ## One press raises at most one event (R84) -/

/-- An operation leaves a ready block ready. -/
theorem ready_of_exec {i : Instr} {s t : State} (hr : Ready s) (h : exec i s = .next t) : Ready t := by
  cases (exec_of_ready i hr).symm.trans h
  exact effectOf_ready i (s := startOutput s) hr

/-- The same move is made with the events cleared before it, and leaves the same state up to the events. -/
theorem SampleMove.after_clearEvents {s t : State} {b : Bool} {sh : Nat} (m : SampleMove s b sh t) :
    ∃ u, SampleMove (clearEvents s) b sh u ∧ clearEvents u = clearEvents t := by
  cases m with
  | press hp hsh => exact ⟨_, .press hp hsh, rfl⟩
  | released hp hsh => exact ⟨_, .released hp hsh, rfl⟩
  | release hp hsh => exact ⟨_, .release hp hsh, rfl⟩
  | latched hp hsh hlong => exact ⟨_, .latched hp hsh hlong, rfl⟩
  | broken hp hsh hlong hb => exact ⟨_, .broken hp hsh hlong hb, rfl⟩
  | counted hp hsh hlong hb hrun => exact ⟨_, .counted hp hsh hlong hb hrun, rfl⟩
  | completed hp hsh hlong hb hrun hruns => exact ⟨_, .completed hp hsh hlong hb hrun hruns, rfl⟩
  | longPress hp hsh hlong hb hrun hruns => exact ⟨_, .longPress hp hsh hlong hb hrun hruns, rfl⟩

/-- The events raised do not depend on the events pending at the start. -/
theorem eventsRaised_congr (ps : List PinLevel) {s u : State} (h : clearEvents s = clearEvents u) :
    eventsRaised ps s = eventsRaised ps u := by
  cases ps with
  | nil => rfl
  | cons p ps => simp only [eventsRaised, h]

/-- One sample more in front of a list. -/
theorem samplesFrom_cons {p : PinLevel} {ps : List PinLevel} {s t : State} (h : exec (.sample p) s = .next t) :
    samplesFrom (p :: ps) s = samplesFrom ps t := by
  simp only [samplesFrom, h]

/-- The events of a list of SAMPLEs are those its first move raises, counted from none, and those raised after it. -/
theorem eventsRaised_cons {s t : State} {p : PinLevel} (ps : List PinLevel) (hr : Ready s)
    (h : exec (.sample p) s = .next t) :
    ∃ b sh u, SampleMove (clearEvents (startOutput s)) b sh u ∧ clearEvents u = clearEvents t ∧
      eventsRaised (p :: ps) s = buttonEvents u ++ eventsRaised ps t := by
  obtain ⟨t', ht, m⟩ := exec_sample_move p hr rfl rfl
  cases ht.symm.trans h
  obtain ⟨u, mu, hu⟩ := m.after_clearEvents
  have hexec : exec (.sample p) (clearEvents s) = .next u := exec_sample_of_move (s := clearEvents s) hr rfl rfl mu
  exact ⟨_, _, u, mu, hu, by simp only [eventsRaised, hexec, eventsRaised_congr ps hu]⟩

/-- The latch counts the event of a press: the events a move of a press raises from none, added to the latch before it, are
at most the latch after it, or at most 1 when it releases. -/
theorem SampleMove.events_add_latch_le {s t : State} {b : Bool} {sh : Nat} (m : SampleMove (clearEvents s) b sh t)
    (hp : s.btnPressed = true) :
    (buttonEvents t).length + s.btnLong.toNat ≤ 1 ∧
    (t.btnPressed = true → (buttonEvents t).length + s.btnLong.toNat ≤ t.btnLong.toNat) := by
  cases m with
  | press hp' | released hp' => simp [hp] at hp'
  | release => cases hlong : s.btnLong <;> simp [buttonEvents, hlong]
  | latched | broken | counted | completed => simp [buttonEvents, Bool.toNat_le]
  | longPress _ _ hlong =>
    rw [clearEvents_btnLong] at hlong
    simp [buttonEvents, hlong]

/-- Up to the SAMPLE that releases, the events raised and the latch are at most 1 together. -/
theorem eventsRaised_add_latch_le (ps : List PinLevel) {s : State} (hr : Ready s)
    (hheld : ∀ k < ps.length, ∃ t, samplesFrom (ps.take k) s = some t ∧ t.btnPressed = true) :
    (eventsRaised ps s).length + s.btnLong.toNat ≤ 1 := by
  induction ps generalizing s with
  | nil => simp [eventsRaised, Bool.toNat_le]
  | cons p ps ih =>
    have hp : s.btnPressed = true := by simpa [samplesFrom] using hheld 0 (by simp)
    obtain ⟨t, ht, -⟩ := exec_sample_move p hr rfl rfl
    obtain ⟨b, sh, u, m, hu, hevents⟩ := eventsRaised_cons ps hr ht
    obtain ⟨hone, hlatch⟩ := m.events_add_latch_le hp
    rw [startOutput_btnLong] at hone hlatch
    rw [hevents, List.length_append]
    cases ps with
    | nil => simpa [eventsRaised] using hone
    | cons q qs =>
      have htp : t.btnPressed = true := by simpa [samplesFrom, ht] using hheld 1 (by simp)
      have hup : u.btnPressed = t.btnPressed := by simpa using congrArg State.btnPressed hu
      have hul : u.btnLong = t.btnLong := by simpa using congrArg State.btnLong hu
      have hrest := ih (ready_of_exec hr ht) fun k hk => by
        simpa only [List.take_succ_cons, samplesFrom_cons ht] using hheld (k + 1) (Nat.succ_lt_succ hk)
      have hstep := hlatch (hup.trans htp)
      rw [hul] at hstep
      omega

/-- Settles O27: the latch is not set at the start. -/
theorem oneEventPerPressRelease : Obligations.OneEventPerPressRelease :=
  fun _ ps hr _ _ _ hheld => Nat.le_of_add_right_le (eventsRaised_add_latch_le ps hr hheld)

/-! ## A clean press (R85) -/

/-- SAMPLEs one after the other. -/
theorem samplesFrom_append {ps : List PinLevel} (qs : List PinLevel) {s t : State} (h : samplesFrom ps s = some t) :
    samplesFrom (ps ++ qs) s = samplesFrom qs t := by
  induction ps generalizing s with
  | nil => cases h; rfl
  | cons p ps ih =>
    simp only [List.cons_append, samplesFrom] at h ⊢
    split at h
    · exact ih h
    · cases h
    · cases h

/-- What each of `m` equal SAMPLEs carries from its number to the next holds after the last. -/
theorem samplesFrom_replicate {P : Nat → State → Prop} {p : PinLevel} {m : Nat}
    (hstep : ∀ i < m, ∀ s, P i s → ∃ t, exec (.sample p) s = .next t ∧ P (i + 1) t) {s : State} (h : P 0 s) :
    ∃ t, samplesFrom (List.replicate m p) s = some t ∧ P m t := by
  induction m with
  | zero => exact ⟨s, rfl, h⟩
  | succ m ih =>
    obtain ⟨t, ht, hP⟩ := ih fun i hi => hstep i (Nat.lt_succ_of_lt hi)
    obtain ⟨u, hu, hP'⟩ := hstep m (Nat.lt_succ_self m) t hP
    exact ⟨u, by rw [List.replicate_succ', samplesFrom_append [p] ht, samplesFrom_cons hu, samplesFrom], hP'⟩

/-- The pin level of PRESS reads "pressed" (R69, R75). -/
theorem pressedSample_pressPin {c : Cfg} (h : c.legal = true) : pressedSample c (pressPin c) = true := by
  obtain ⟨-, -, -, hlevel, -⟩ := (legal_iff c).mp h
  refine pressedSample_of_eq ?_
  rw [pressPin, BitVec.toNat_ofNat]
  omega

/-- The pin level of RELEASE reads "not pressed" (R69, R75). -/
theorem pressedSample_releasePin {c : Cfg} (h : c.legal = true) : pressedSample c (releasePin c) = false := by
  obtain ⟨-, -, -, hlevel, -⟩ := (legal_iff c).mp h
  refine pressedSample_of_ne ?_
  rw [releasePin, BitVec.toNat_ofNat]
  omega

/-- A register of ones, of which a pressed sample makes one more, up to N. -/
theorem shiftIn_ones_true (c : Cfg) (i : Nat) :
    shiftIn c (2 ^ min i c.n - 1) true = 2 ^ min (i + 1) c.n - 1 := by
  rw [shiftIn, Bool.toNat_true]
  rcases Nat.lt_or_ge i c.n with hi | hi
  · have hpos : 0 < 2 ^ i := Nat.two_pow_pos i
    have hle : 2 ^ (i + 1) ≤ 2 ^ c.n := Nat.pow_le_pow_right (by decide) hi
    rw [pow_succ] at hle
    rw [min_eq_left hi.le, min_eq_left hi, pow_succ, Nat.mod_eq_of_lt (by omega)]
    omega
  · have hpos : 0 < 2 ^ c.n := Nat.two_pow_pos c.n
    rw [min_eq_right hi, min_eq_right (Nat.le_succ_of_le hi), Nat.mod_eq_sub_mod (by omega),
      Nat.mod_eq_of_lt (by omega)]
    omega

/-- A register whose oldest ones are left, of which a not-pressed sample drops one. -/
theorem shiftIn_ones_false {c : Cfg} {i : Nat} (hi : i < c.n) :
    shiftIn c (2 ^ c.n - 2 ^ i) false = 2 ^ c.n - 2 ^ (i + 1) := by
  have hpos : 0 < 2 ^ i := Nat.two_pow_pos i
  have hle : 2 ^ (i + 1) ≤ 2 ^ c.n := Nat.pow_le_pow_right (by decide) hi
  rw [pow_succ] at hle
  rw [shiftIn, Bool.toNat_false, pow_succ, Nat.mod_eq_sub_mod (by omega), Nat.mod_eq_of_lt (by omega)]
  omega

/-- A not-pressed sample in the register keeps it from being all ones. -/
theorem shiftIn_false_ne_allPressed {c : Cfg} (h : c.legal = true) (n : Nat) : shiftIn c n false ≠ allPressed c := by
  obtain ⟨hn, -⟩ := (legal_iff c).mp h
  have hone : 0 < c.n := hn
  intro hones
  simpa [hones, allPressed, hone] using shiftIn_testBit_zero hn n false

/-- The state after `i` pressed samples in a row from a released classifier with an empty register: N of them are the press,
each later one is counted, and the N + L*M-th latches. -/
structure PressedFor (c : Cfg) (i : Nat) (s : State) : Prop where
  cfg_eq : s.cfg = c
  ready : Ready s
  shift_eq : s.btnShift = 2 ^ min i c.n - 1
  pressed_iff : s.btnPressed = true ↔ c.n ≤ i
  click_eq : s.evtClick = false
  long_iff : s.evtLong = true ↔ c.n + c.l * c.m ≤ i
  latch_eq : c.n ≤ i → s.btnLong = s.evtLong
  counted : c.n ≤ i → s.btnLong = false → c.n + c.l * s.btnRuns + s.btnRun = i ∧ s.btnRun < c.l ∧ s.btnRuns < c.m

/-- The state `i` not-pressed samples (at most N) after `k` pressed ones: the N-th of them is the release. -/
structure ReleasedFor (c : Cfg) (k i : Nat) (s : State) : Prop where
  cfg_eq : s.cfg = c
  ready : Ready s
  shift_eq : c.n ≤ k → s.btnShift = 2 ^ c.n - 2 ^ i
  pressed_iff : s.btnPressed = true ↔ c.n ≤ k ∧ i < c.n
  click_iff : s.evtClick = true ↔ c.n ≤ k ∧ k < c.n + c.l * c.m ∧ i = c.n
  long_iff : s.evtLong = true ↔ c.n + c.l * c.m ≤ k
  latch_eq : c.n ≤ k → i < c.n → s.btnLong = s.evtLong

/-- A long-press takes at least one sample after the press (R8). -/
theorem longRuns_pos {c : Cfg} (h : c.legal = true) : 0 < c.l * c.m := by
  obtain ⟨-, hnl, hm, -⟩ := (legal_iff c).mp h
  exact Nat.mul_pos (Nat.zero_lt_of_lt hnl) hm

/-- Before the first sample of the press. -/
theorem pressedFor_zero {s : State} (hr : Ready s) (hp : s.btnPressed = false) (hsh : s.btnShift = 0)
    (hclick : s.evtClick = false) (hlong : s.evtLong = false) : PressedFor s.cfg 0 s := by
  have ⟨_, hl, _⟩ := hr
  obtain ⟨hn, -⟩ := (legal_iff _).mp hl
  exact ⟨rfl, hr, by simp [hsh], iff_of_false (by simp [hp]) (by omega), hclick,
    iff_of_false (by simp [hlong]) (by omega), by omega, by omega⟩

/-- N ones stand in the register exactly from the N-th pressed sample on. -/
theorem ones_eq_allPressed_iff (c : Cfg) (i : Nat) : 2 ^ min i c.n - 1 = allPressed c ↔ c.n ≤ i := by
  refine ⟨fun h => ?_, fun h => by rw [min_eq_right h, allPressed]⟩
  have hlt : allPressed c < 2 ^ i := by
    rw [← h]
    exact Nat.lt_of_lt_of_le (Nat.sub_one_lt (Nat.two_pow_pos _).ne') (Nat.pow_le_pow_right (by decide) (min_le_left _ _))
  exact le_of_allPressed_lt hlt

/-- The move of one pressed sample more. -/
theorem PressedFor.after_move {s t : State} {i : Nat} (h : PressedFor s.cfg i s)
    (m : SampleMove s true (shiftIn s.cfg s.btnShift true) t) (ht : Ready t) : PressedFor s.cfg (i + 1) t := by
  obtain ⟨-, ⟨-, hl, -⟩, hshift, hpressed, hclick, hlong, hlatch, hcounted⟩ := h
  obtain ⟨-, hnl, hm, -⟩ := (legal_iff _).mp hl
  have hlm := longRuns_pos hl
  have hne := shiftIn_true_ne_zero hl s.btnShift
  have hones : shiftIn s.cfg s.btnShift true = 2 ^ min (i + 1) s.cfg.n - 1 := hshift ▸ shiftIn_ones_true s.cfg i
  have hfull := ones_eq_allPressed_iff s.cfg (i + 1)
  rw [← hones] at hfull
  cases m with
  | press hp hsh =>
    have hi : i < s.cfg.n := by simpa [hp] using hpressed
    have hi' : s.cfg.n ≤ i + 1 := hfull.mp hsh
    have hnone : s.evtLong = false := Bool.eq_false_iff.mpr fun he => absurd (hlong.mp he) (by omega)
    exact ⟨rfl, ht, hones, iff_of_true rfl hi', hclick, hlong.trans (by omega), fun _ => hnone.symm,
      fun _ _ => ⟨by dsimp only; omega, Nat.zero_lt_of_lt hnl, hm⟩⟩
  | released hp hsh =>
    have hi : i < s.cfg.n := by simpa [hp] using hpressed
    have hi' : ¬s.cfg.n ≤ i + 1 := mt hfull.mpr hsh
    exact ⟨rfl, ht, hones, iff_of_false (by simp [hp]) hi', hclick, hlong.trans (by omega), fun h => absurd h hi',
      fun h => absurd h hi'⟩
  | release _ hsh => exact absurd hsh hne
  | latched hp _ hlatched =>
    have hi := hpressed.mp hp
    have hend := hlong.mp ((hlatch hi).symm.trans hlatched)
    exact ⟨rfl, ht, hones, iff_of_true hp (by omega), hclick, hlong.trans (by omega), fun _ => hlatch hi,
      fun _ hopen => by simp [hlatched] at hopen⟩
  | broken _ _ _ hb => simp at hb
  | counted hp _ hopen _ hrun =>
    have hi := hpressed.mp hp
    obtain ⟨hsum, hlt, hruns⟩ := hcounted hi hopen
    have hle : s.cfg.l * (s.btnRuns + 1) ≤ s.cfg.l * s.cfg.m := Nat.mul_le_mul_left _ hruns
    rw [Nat.mul_succ] at hle
    exact ⟨rfl, ht, hones, iff_of_true hp (by omega), hclick, hlong.trans (by omega), fun _ => hlatch hi,
      fun _ _ => ⟨by dsimp only; omega, by dsimp only; omega, hruns⟩⟩
  | completed hp _ hopen _ hrun hruns' =>
    have hi := hpressed.mp hp
    obtain ⟨hsum, hlt, hruns⟩ := hcounted hi hopen
    have hmore : s.btnRuns + 1 < s.cfg.m := by omega
    have hle : s.cfg.l * (s.btnRuns + 1 + 1) ≤ s.cfg.l * s.cfg.m := Nat.mul_le_mul_left _ hmore
    rw [Nat.mul_succ, Nat.mul_succ] at hle
    exact ⟨rfl, ht, hones, iff_of_true hp (by omega), hclick, hlong.trans (by omega), fun _ => hlatch hi,
      fun _ _ => ⟨by dsimp only; rw [Nat.mul_succ]; omega, by dsimp only; omega, hmore⟩⟩
  | longPress hp _ hopen _ hrun hruns' =>
    have hi := hpressed.mp hp
    obtain ⟨hsum, -⟩ := hcounted hi hopen
    have hend : s.cfg.n + s.cfg.l * s.cfg.m = i + 1 := by rw [← hruns', Nat.mul_succ]; omega
    exact ⟨rfl, ht, hones, iff_of_true hp (by omega), hclick, iff_of_true rfl (by omega), fun _ => rfl,
      fun _ hopen' => by simp at hopen'⟩

/-- The output list plays no part. -/
theorem PressedFor.after_startOutput {c : Cfg} {i : Nat} {s : State} (h : PressedFor c i s) :
    PressedFor c i (startOutput s) :=
  ⟨h.cfg_eq, h.ready, h.shift_eq, h.pressed_iff, h.click_eq, h.long_iff, h.latch_eq, h.counted⟩

/-- One pressed sample more. -/
theorem PressedFor.after_sample {c : Cfg} {i : Nat} {s : State} (h : PressedFor c i s) :
    ∃ t, exec (.sample (pressPin c)) s = .next t ∧ PressedFor c (i + 1) t := by
  obtain rfl := h.cfg_eq
  have hr := h.ready
  have ⟨_, hl, _⟩ := hr
  obtain ⟨t, ht, m⟩ := exec_sample_move (pressPin s.cfg) hr (pressedSample_pressPin hl) rfl
  exact ⟨t, ht, PressedFor.after_move (s := startOutput s) h.after_startOutput m (ready_of_exec hr ht)⟩

/-- Before the first sample of the release. -/
theorem PressedFor.releasedFor {c : Cfg} {k : Nat} {s : State} (h : PressedFor c k s) : ReleasedFor c k 0 s := by
  obtain ⟨rfl, hr, hshift, hpressed, hclick, hlong, hlatch, -⟩ := h
  have ⟨_, hl, _⟩ := hr
  obtain ⟨hn, -⟩ := (legal_iff _).mp hl
  exact ⟨rfl, hr, fun hk => by rw [hshift, min_eq_right hk, pow_zero], hpressed.trans (by omega),
    iff_of_false (by simp [hclick]) (by omega), hlong, fun hk _ => hlatch hk⟩

/-- The move of one not-pressed sample more. -/
theorem ReleasedFor.after_move {s t : State} {k i : Nat} (h : ReleasedFor s.cfg k i s) (hi : i < s.cfg.n)
    (m : SampleMove s false (shiftIn s.cfg s.btnShift false) t) (ht : Ready t) : ReleasedFor s.cfg k (i + 1) t := by
  obtain ⟨-, ⟨-, hl, -⟩, hshift, hpressed, hclick, hlong, hlatch⟩ := h
  have hne := shiftIn_false_ne_allPressed hl s.btnShift
  have hones (hk : s.cfg.n ≤ k) : shiftIn s.cfg s.btnShift false = 2 ^ s.cfg.n - 2 ^ (i + 1) :=
    hshift hk ▸ shiftIn_ones_false hi
  have hempty (hk : s.cfg.n ≤ k) : shiftIn s.cfg s.btnShift false = 0 ↔ i + 1 = s.cfg.n := by
    rw [hones hk, Nat.sub_eq_zero_iff_le, Nat.pow_le_pow_iff_right (by decide)]
    omega
  cases m with
  | press _ hsh => exact absurd hsh hne
  | released hp hsh =>
    have hk : ¬s.cfg.n ≤ k := fun hk => by simpa [hp] using hpressed.mpr ⟨hk, hi⟩
    exact ⟨rfl, ht, hones, iff_of_false (by simp [hp]) (by omega), hclick.trans (by omega), hlong,
      fun hk' => absurd hk' hk⟩
  | release hp hsh =>
    obtain ⟨hk, -⟩ := hpressed.mp hp
    have hend := (hempty hk).mp hsh
    refine ⟨rfl, ht, hones, iff_of_false (by simp) (by omega), ?_, hlong, fun _ h => by omega⟩
    have hnone : s.evtClick = false := Bool.eq_false_iff.mpr fun he => absurd (hclick.mp he) (by omega)
    rw [hlatch hk hi, hnone, Bool.false_or, Bool.not_eq_true', ← Bool.not_eq_true, hlong]
    omega
  | latched hp hsh | broken hp hsh =>
    obtain ⟨hk, -⟩ := hpressed.mp hp
    have hmore := mt (hempty hk).mpr hsh
    exact ⟨rfl, ht, hones, iff_of_true hp (by omega), hclick.trans (by omega), hlong, fun _ _ => hlatch hk hi⟩
  | counted _ _ _ hb | completed _ _ _ hb | longPress _ _ _ hb => simp at hb

/-- The output list plays no part. -/
theorem ReleasedFor.after_startOutput {c : Cfg} {k i : Nat} {s : State} (h : ReleasedFor c k i s) :
    ReleasedFor c k i (startOutput s) :=
  ⟨h.cfg_eq, h.ready, h.shift_eq, h.pressed_iff, h.click_iff, h.long_iff, h.latch_eq⟩

/-- One not-pressed sample more. -/
theorem ReleasedFor.after_sample {c : Cfg} {k i : Nat} {s : State} (h : ReleasedFor c k i s) (hi : i < c.n) :
    ∃ t, exec (.sample (releasePin c)) s = .next t ∧ ReleasedFor c k (i + 1) t := by
  obtain rfl := h.cfg_eq
  have hr := h.ready
  have ⟨_, hl, _⟩ := hr
  obtain ⟨t, ht, m⟩ := exec_sample_move (releasePin s.cfg) hr (pressedSample_releasePin hl) rfl
  exact ⟨t, ht, ReleasedFor.after_move (s := startOutput s) h.after_startOutput hi m (ready_of_exec hr ht)⟩

/-- Settles O28: the first `j` samples end in the press or in the release. -/
theorem cleanPressThresholds : Obligations.CleanPressThresholds := by
  intro s k j hr hp hsh hclick hlong hj
  have ⟨_, hl, _⟩ := hr
  obtain ⟨hn, -⟩ := (legal_iff _).mp hl
  have hzero := pressedFor_zero hr hp hsh hclick hlong
  have hpress (i : Nat) := samplesFrom_replicate (m := i) (fun _ _ _ => PressedFor.after_sample) hzero
  rw [List.take_append, List.take_replicate, List.take_replicate, List.length_replicate]
  rcases Nat.le_or_ge j k with hjk | hjk
  · obtain ⟨t, ht, h⟩ := hpress j
    refine ⟨t, by simpa [min_eq_left hjk, Nat.sub_eq_zero_of_le hjk] using ht, h.pressed_iff.trans (by omega),
      iff_of_false (by simp [h.click_eq]) (by omega), h.long_iff.trans (by omega)⟩
  · obtain ⟨t, ht, h⟩ := hpress k
    obtain ⟨u, hu, h'⟩ := samplesFrom_replicate (m := j - k) (fun i hi _ h => h.after_sample (by omega)) h.releasedFor
    refine ⟨u, ?_, h'.pressed_iff.trans (by omega), h'.click_iff.trans (by omega), h'.long_iff.trans (by omega)⟩
    rw [min_eq_right hjk, min_eq_left (by omega), samplesFrom_append _ ht, hu]

end Sys2Proof.Machine
end

section
/-!
PROOFS of the motion monitor's statements (41_motion_monitor.md R88 to R90). POLL has one result in every ready state; what
STEP makes of the brakes level it wrote is the one move slot 1 has in an active region 1.
-/

namespace Sys2Proof.Machine

/-! ## POLL's result (R88) -/

/-- POLL in a ready state, in one record (R88). -/
theorem exec_poll_of_ready (v : StatusByte) {s : State} (hr : Ready s) :
    exec (.poll v) s = .next { s with
      evtError := s.evtError || v.getLsbD s.cfg.errorBit, brakesOn := !v.getLsbD s.cfg.awakeBit, out := [] } := by
  rw [exec_of_ready _ hr, effectOf, pollEffect_eq]
  rfl

/-- Settles O30: the word by the encoder, the result by the effect of POLL. -/
theorem pollResult : Obligations.PollResult :=
  fun v => ⟨encode_poll_toNat v, fun _ => exec_poll_of_ready v⟩

/-! ## The brakes level (R90) -/

/-- In an active region 1 slot 1 leaves the Taillights sub-state of the brakes level (R104 to R106). -/
theorem SlotOneMove.eq_of_active {a c : BitVec 2} {b : Bool} {o : List ActuatorCall} (m : SlotOneMove a b c o)
    (ha : a = 1 ∨ a = 2) : c = if b then 1 else 2 := by
  cases m with
  | unset | illegal => simp at ha
  | _ => rfl

/-- An operation that completes keeps the configuration (R145). -/
theorem cfg_eq_of_exec {i : Instr} {s t : State} (h : exec i s = .next t) : t.cfg = s.cfg := by
  rcases exec_next h with ⟨-, rfl⟩ | ⟨⟨-, -, hc⟩, rfl⟩
  · rfl
  · obtain ⟨hcfg, -⟩ := effectOf_rest i (s := startOutput s) hc
    exact hcfg

/-- An operation that completes in a ready state keeps the region invariant (R35). -/
theorem regionInv_of_exec {i : Instr} {s t : State} (hr : Ready s) (hreg : RegionInv s) (h : exec i s = .next t) :
    RegionInv t := by
  cases (exec_of_ready i hr).symm.trans h
  have ⟨_, _, hc⟩ := hr
  exact effectOf_regionInv i (s := startOutput s) hc hreg

/-- Whatever level stood before, POLL leaves 1 when it reads "not awake" and 0 when it reads "awake" (R90). -/
theorem exec_poll_writes_brakes (v : StatusByte) {s : State} (hr : Ready s) :
    ∃ t, exec (.poll v) s = .next t ∧ t.brakesOn = !v.getLsbD s.cfg.awakeBit :=
  ⟨_, exec_poll_of_ready v hr, rfl⟩

/-- A STEP that ends in Running leaves the Taillights sub-state of the brakes level it read: slot 0 leaves region 1 active,
and slot 1 follows the level (R95, R104). -/
theorem conf1_of_exec_step {s t : State} (hr : Ready s) (hreg : RegionInv s) (h : exec .step s = .next t)
    (hrun : Running t) : t.conf1 = if s.brakesOn then 1 else 2 := by
  cases (exec_of_ready .step hr).symm.trans h
  have ⟨_, _, hc⟩ := hr
  obtain ⟨h1, h4, -, -⟩ := (codesLegal_iff s).mp hc
  obtain ⟨c0, c1, _, _, c1', _, m0, m1, e⟩ := stepEffect_move (startOutput s) h1 h4
  rw [effectOf, e] at hrun ⊢
  exact m1.eq_of_active ((m0.regionInv hreg).mp hrun)

/-- Settles O31: each POLL writes the level, so STEP reads the second one's. -/
theorem brakesFollowTheLastPoll : Obligations.BrakesFollowTheLastPoll := by
  intro s a b hr hreg
  obtain ⟨t, ht, -⟩ := exec_poll_writes_brakes a hr
  have hrt := ready_of_exec hr ht
  obtain ⟨u, hu, hlevel⟩ := exec_poll_writes_brakes b hrt
  have hru := ready_of_exec hrt hu
  have hv := exec_of_ready .step hru
  have hregu := regionInv_of_exec hrt (regionInv_of_exec hr hreg ht) hu
  rw [cfg_eq_of_exec ht] at hlevel
  refine ⟨t, u, ht, hu, fun h => by simp [hlevel, h], fun h => by simp [hlevel, h], _, hv, fun _ hrun => ?_⟩
  rw [conf1_of_exec_step hru hregu hv hrun, hlevel]
  cases b.getLsbD s.cfg.awakeBit <;> decide

/-! ## The error event (R89) -/

/-- A POLL that reads the error flag set leaves the error event raised, pending before or not (R89). -/
theorem exec_poll_raises_error {s : State} {v : StatusByte} (hr : Ready s) (hv : v.getLsbD s.cfg.errorBit = true) :
    ∃ t, exec (.poll v) s = .next t ∧ t.evtError = true :=
  ⟨_, exec_poll_of_ready v hr, by simp [hv]⟩

/-- Settles O32: STEP clears the event and keeps the configuration, so the second POLL reads the same flag. -/
theorem persistingErrorIsRaisedAgain : Obligations.PersistingErrorIsRaisedAgain := by
  intro s v hr hv
  obtain ⟨t, ht, hraised⟩ := exec_poll_raises_error hr hv
  have hrt := ready_of_exec hr ht
  have hu := exec_of_ready .step hrt
  obtain ⟨w, hw, hagain⟩ := exec_poll_raises_error (v := v) (ready_of_exec hrt hu)
    (by rwa [cfg_eq_of_exec hu, cfg_eq_of_exec ht])
  exact ⟨t, _, w, ht, hraised, hu, rfl, hw, hagain⟩

end Sys2Proof.Machine
end

section
/-!
PROOFS of the state machine's statements (42_state_machine.md R94 to R120) and of the mode after RESET (R143). STEP is one
move of each slot and the tests decide the move, so an exact result is proved by naming the two moves; what several moves
have in common is proved by their cases.
-/

namespace Sys2Proof.Machine

/-! ## STEP by the moves of its slots -/

/-- Only one move of slot 0 is possible: two different ones ask for different codes or events. -/
theorem SlotZeroMove.unique {s : State} {c0 c0' : BitVec 3} {c1 c1' h h' : BitVec 2} {o o' : List ActuatorCall}
    (m : SlotZeroMove s c0 c1 h o) (m' : SlotZeroMove s c0' c1' h' o') : c0 = c0' ∧ c1 = c1' ∧ h = h' ∧ o = o' := by
  cases m with
  | enterOff h0 hc hh | enterOn h0 hc hh => cases m' <;> simp_all
  | waitIdle h0 hc | stopOn h0 hl | stopOff h0 hl | recover h0 => cases m' <;> simp_all
  | errorOn h0 hl he | errorOff h0 hl he => cases m' <;> simp_all
  | toggleOff h0 hl he hc | toggleOn h0 hl he hc | waitOn h0 hl he hc | waitOff h0 hl he hc => cases m' <;> simp_all

/-- Only one move of slot 1 is possible. -/
theorem SlotOneMove.unique {a c c' : BitVec 2} {b : Bool} {o o' : List ActuatorCall} (m : SlotOneMove a b c o)
    (m' : SlotOneMove a b c' o') : c = c' ∧ o = o' := by
  obtain ⟨hc, ho⟩ := m.values
  obtain ⟨hc', ho'⟩ := m'.values
  exact ⟨hc.trans hc'.symm, ho.trans ho'.symm⟩

/-- Slot 0 reads six registers: two states that agree on them make the same move (R94). -/
theorem SlotZeroMove.congr {s u : State} {c0 : BitVec 3} {c1 h : BitVec 2} {o : List ActuatorCall}
    (m : SlotZeroMove s c0 c1 h o) (h0 : s.conf0 = u.conf0) (h1 : s.conf1 = u.conf1) (hh : s.hist = u.hist)
    (he : s.evtError = u.evtError) (hc : s.evtClick = u.evtClick) (hl : s.evtLong = u.evtLong) :
    SlotZeroMove u c0 c1 h o := by
  obtain ⟨⟩ := s
  obtain ⟨⟩ := u
  subst h0 h1 hh he hc hl
  cases m <;> constructor <;> assumption

/-- In a ready state STEP completes, by one move of each slot and the clear of the in-events (R94, R95, R107). -/
theorem exec_step_moves {s : State} (hr : Ready s) :
    ∃ c0 c1 h o c1' o', SlotZeroMove s c0 c1 h o ∧ SlotOneMove c1 s.brakesOn c1' o' ∧
      exec .step s = .next { s with
        conf0 := c0, conf1 := c1', hist := h, evtError := false, evtClick := false, evtLong := false, out := o ++ o' } := by
  have ⟨_, _, hc⟩ := hr
  obtain ⟨h1, h4, -, -⟩ := (codesLegal_iff s).mp hc
  obtain ⟨c0, c1, h, o, c1', o', m0, m1, e⟩ := stepEffect_move (startOutput s) h1 h4
  refine ⟨c0, c1, h, o, c1', o', m0.congr rfl rfl rfl rfl rfl rfl, m1, ?_⟩
  rw [exec_of_ready .step hr, effectOf, e]
  rfl

/-- In a ready state STEP leaves what the moves of its slots leave. -/
theorem exec_step_of_moves {s : State} {c0 : BitVec 3} {c1 h c1' : BitVec 2} {o o' : List ActuatorCall} (hr : Ready s)
    (m : SlotZeroMove s c0 c1 h o) (m' : SlotOneMove c1 s.brakesOn c1' o') :
    exec .step s = .next { s with
      conf0 := c0, conf1 := c1', hist := h, evtError := false, evtClick := false, evtLong := false, out := o ++ o' } := by
  obtain ⟨_, _, _, _, _, _, n, n', e⟩ := exec_step_moves hr
  obtain ⟨rfl, rfl, rfl, rfl⟩ := n.unique m
  obtain ⟨rfl, rfl⟩ := n'.unique m'
  exact e

/-- Slot 1 in Brakes_Off (R105). -/
theorem slotOneMove_of_brakesOff (b : Bool) :
    SlotOneMove 2 b (if b then 1 else 2) (if b then [.taillightsBright] else []) := by
  cases b with
  | false => exact .stayOff
  | true => exact .brighten

/-- Slot 1 has a move for every value of `conf1`. -/
theorem exists_slotOneMove (a : BitVec 2) (b : Bool) : ∃ c o, SlotOneMove a b c o := by
  obtain ⟨c, o, m, -⟩ := slotOne_move { State.reset with conf1 := a, brakesOn := b }
  exact ⟨c, o, m⟩

/-- Neither Idle nor Error is Running (R22). -/
theorem not_running_of_idle_or_error {s : State} (h : s.conf0 = 1 ∨ s.conf0 = 4) : ¬Running s := by
  rcases h with h | h <;> simp [Running, h]

/-! ## Idle (R97, R108 to R112) -/

/-- In Idle slot 0 reads neither the long-press nor the error (R97). -/
theorem SlotZeroMove.of_idle {s : State} {c0 : BitVec 3} {c1 h : BitVec 2} {o : List ActuatorCall}
    (m : SlotZeroMove s c0 c1 h o) (h0 : s.conf0 = 1) (l e : Bool) :
    SlotZeroMove { s with evtLong := l, evtError := e } c0 c1 h o := by
  cases m with
  | enterOff _ hc hh => exact .enterOff h0 hc hh
  | enterOn _ hc hh => exact .enterOn h0 hc hh
  | waitIdle _ hc => exact .waitIdle h0 hc
  | _ h0' => simp [h0] at h0'

/-- Settles O37: slot 0 enters by the history, and slot 1 reads the level in Brakes_Off. -/
theorem clickEntersRunning : Obligations.ClickEntersRunning := by
  intro s hr h0 hc
  by_cases hh : s.hist = 2
  · simp only [if_pos hh]
    exact exec_step_of_moves hr (.enterOff h0 hc hh) (slotOneMove_of_brakesOff _)
  · simp only [if_neg hh]
    exact exec_step_of_moves hr (.enterOn h0 hc hh) (slotOneMove_of_brakesOff _)

/-- Settles O36: the wait without a click, the entry with one, and by the same moves whatever the other events hold. -/
theorem idleReaction : Obligations.IdleReaction := by
  intro s hr h0 h1
  refine ⟨fun hc => ?wait, fun hc => ?enter, fun l e => ?others⟩
  case wait =>
    have hwait : SlotZeroMove s 1 0 s.hist [.waitForInterrupt] := h1 ▸ .waitIdle h0 hc
    simpa [h0, h1] using exec_step_of_moves hr hwait (.unset _)
  case enter =>
    refine ⟨_, clickEntersRunning s hr h0 hc, ?_, rfl⟩
    by_cases hh : s.hist = 2
    · exact .inr (if_pos hh)
    · exact .inl (if_neg hh)
  case others =>
    obtain ⟨_, _, _, _, _, _, m, m', hs⟩ := exec_step_moves hr
    rw [hs, exec_step_of_moves (s := { s with evtLong := l, evtError := e }) hr (m.of_idle h0 l e) m']

/-- Settles O16: after RESET the block is in Idle with no click. -/
theorem initialModeAfterReset : Obligations.InitialModeAfterReset := by
  intro c hl
  obtain ⟨hinv, -⟩ := invariantsHoldAtReset
  obtain ⟨-, hr⟩ := hinv c hl
  obtain ⟨hwait, -⟩ := idleReaction (State.resetWith c) hr rfl rfl
  exact ⟨hr, rfl, hwait rfl⟩

/-! ## Running (R98 to R102) -/

/-- Settles O39: the move out of either Headlights sub-state, after which slot 1 has nothing to do. -/
theorem longPressStopsToIdle : Obligations.LongPressStopsToIdle := by
  intro s hr hrun hl
  rcases hrun with h0 | h0
  · simpa [h0] using exec_step_of_moves hr (.stopOn h0 hl) (.unset _)
  · simpa [h0] using exec_step_of_moves hr (.stopOff h0 hl) (.unset _)

/-- Settles O40: the move out of either Headlights sub-state, after which slot 1 has nothing to do. -/
theorem errorEventEntersError : Obligations.ErrorEventEntersError := by
  intro s hr hrun hl he
  rcases hrun with h0 | h0
  · simpa [h0] using exec_step_of_moves hr (.errorOn h0 hl he) (.unset _)
  · simpa [h0] using exec_step_of_moves hr (.errorOff h0 hl he) (.unset _)

/-- Settles O38: which move of Running slot 0 makes. -/
theorem runningPriority : Obligations.RunningPriority := by
  intro s hr hrun
  obtain ⟨c0, _, _, o, _, _, m, -, e⟩ := exec_step_moves hr
  refine ⟨_, e, ?_⟩
  cases m with
  | enterOff h0 | enterOn h0 | waitIdle h0 => exact absurd hrun (not_running_of_idle_or_error (.inl h0))
  | recover h0 => exact absurd hrun (not_running_of_idle_or_error (.inr h0))
  | stopOn _ hl | stopOff _ hl => simp [hl]
  | errorOn _ hl he | errorOff _ hl he => simp [hl, he]
  | toggleOff h0 hl he hc | toggleOn h0 hl he hc | waitOn h0 hl he hc | waitOff h0 hl he hc => simp [h0, hl, he, hc]

/-- Settles O41: slot 0 toggles or waits and leaves `conf1`, so slot 1 makes the same move with and without the click. -/
theorem clickTogglesHeadlights : Obligations.ClickTogglesHeadlights := by
  intro s hr hrun hl he hc
  obtain ⟨_, _, m'⟩ := exists_slotOneMove s.conf1 s.brakesOn
  rcases hrun with h0 | h0
  · exact ⟨_, _, exec_step_of_moves hr (.toggleOff h0 hl he hc) m',
      exec_step_of_moves (s := { s with evtClick := false }) hr (.waitOn h0 hl he rfl) m', rfl,
      fun _ => ⟨rfl, rfl, rfl⟩, by simp [h0]⟩
  · exact ⟨_, _, exec_step_of_moves hr (.toggleOn h0 hl he hc) m',
      exec_step_of_moves (s := { s with evtClick := false }) hr (.waitOff h0 hl he rfl) m', rfl,
      by simp [h0], fun _ => ⟨rfl, rfl, rfl⟩⟩

/-! ## Error (R103, R118) -/

/-- STEP from Error in a state with the region invariant, in one record (R103). -/
theorem exec_step_of_error {s : State} (hr : Ready s) (h0 : s.conf0 = 4) (h1 : s.conf1 = 0) :
    exec .step s = .next { s with
      conf0 := 1, evtError := false, evtClick := false, evtLong := false, out := [] } := by
  have hrecover : SlotZeroMove s 1 0 s.hist [] := h1 ▸ .recover h0
  simpa [h1] using exec_step_of_moves hr hrecover (.unset _)

/-- Settles O42: the move out of Error, also from the state an error in Running has just left. -/
theorem errorReturnsToIdle : Obligations.ErrorReturnsToIdle := by
  refine ⟨fun _ => exec_step_of_error, fun s hr hrun hl he => ?_⟩
  have ht := errorEventEntersError s hr hrun hl he
  exact ⟨_, _, ht, rfl, exec_step_of_error (ready_of_exec hr ht) rfl rfl, rfl, rfl⟩

/-- Settles O50: no move of slot 0 from Idle or Error leads to Error. -/
theorem errorDoesNotNest : Obligations.ErrorDoesNotNest := by
  intro s hr h0
  obtain ⟨_, _, _, _, _, _, m, -, e⟩ := exec_step_moves hr
  refine ⟨_, e, ?_⟩
  cases m with
  | errorOn h0' => exact absurd (.inl h0') (not_running_of_idle_or_error h0)
  | errorOff h0' => exact absurd (.inr h0') (not_running_of_idle_or_error h0)
  | _ => simp

/-! ## The history (R109, R114) -/

/-- A click in Idle restores the Headlights sub-state `x` that the exit from it saved in `hist` (R109, R114). -/
theorem click_restores_headlights {s : State} {x : BitVec 3} (hr : Ready s) (h0 : s.conf0 = 1)
    (hx : x = 2 ∨ x = 3) (hh : s.hist = if x = 2 then 1 else 2) :
    ∃ t, exec .step { s with evtClick := true } = .next t ∧ t.conf0 = x := by
  refine ⟨_, clickEntersRunning { s with evtClick := true } hr h0 rfl, ?_⟩
  rcases hx with rfl | rfl <;> simp [hh]

/-- Settles O51: both exits from Running save the sub-state, the way through Error keeps it. -/
theorem historyRestoresHeadlights : Obligations.HistoryRestoresHeadlights := by
  refine fun s hr hrun => ⟨fun hl => ?long, fun hl he => ?error⟩
  case long =>
    have ht := longPressStopsToIdle s hr hrun hl
    obtain ⟨u, hu, h0⟩ := click_restores_headlights (ready_of_exec hr ht) rfl hrun rfl
    exact ⟨_, u, ht, rfl, hu, h0⟩
  case error =>
    have ht := errorEventEntersError s hr hrun hl he
    have hrt := ready_of_exec hr ht
    have hu := exec_step_of_error hrt rfl rfl
    obtain ⟨v, hv, h0⟩ := click_restores_headlights (ready_of_exec hrt hu) rfl hrun rfl
    exact ⟨_, _, v, ht, rfl, hu, rfl, hv, h0⟩

/-! ## Slot 1 and the end of the cycle (R104 to R107) -/

/-- Slot 0 leaves the brakes level (R26). -/
theorem slotZero_brakesOn {s : State} (h1 : 1 ≤ s.conf0.toNat) (h4 : s.conf0.toNat ≤ 4) :
    (slotZero s).brakesOn = s.brakesOn := by
  obtain ⟨_, _, _, _, -, e⟩ := slotZero_move s h1 h4
  rw [e]

/-- Settles O43: slot 1 makes its move on what slot 0 left; which move it is, its values say. -/
theorem taillightsReaction : Obligations.TaillightsReaction := by
  intro s u hr hu
  have ⟨_, _, hcodes⟩ := hr
  obtain ⟨h1, h4, -, -⟩ := (codesLegal_iff s).mp hcodes
  have hbrakes : u.brakesOn = s.brakesOn := hu ▸ slotZero_brakesOn (s := startOutput s) h1 h4
  obtain ⟨c, o, m, e'⟩ := slotOne_move u
  have ht : exec .step s = .next (clearEvents { u with conf1 := c, out := u.out ++ o }) := by
    rw [← e', hu]
    exact exec_of_ready .step hr
  rw [hbrakes] at m
  obtain ⟨hc, ho⟩ := m.values
  refine ⟨_, ht, ?_⟩
  simp +contextual [clearEvents, hc, ho]

/-- Settles O44: the clear, and the brakes level among what STEP keeps. -/
theorem stepClearsTheEvents : Obligations.StepClearsTheEvents := by
  intro s hr
  obtain ⟨_, _, _, _, _, _, -, -, e⟩ := exec_step_moves hr
  exact ⟨_, e, rfl, rfl, rfl, rfl⟩

/-- Settles O49, by the move slot 1 makes in Running. -/
theorem taillightsShowTheBrakesLevel : Obligations.TaillightsShowTheBrakesLevel := by
  intro s hr hreg
  have ht := exec_of_ready .step hr
  refine ⟨_, ht, fun hrun => ?_⟩
  rw [conf1_of_exec_step hr hreg ht hrun]
  cases s.brakesOn <;> decide

/-! ## The tables (R119, R120) -/

/-- The move of slot 0 is a row of the table of R119. The waits in Running leave `hist` as it is, which is the row's by the
history invariant. -/
theorem SlotZeroMove.table_row {s : State} {c0 : BitVec 3} {c1 h : BitVec 2} {o : List ActuatorCall}
    (m : SlotZeroMove s c0 c1 h o) (hh : HistoryInv s) :
    tableConf0 s.conf0.toNat s.evtClick s.evtLong s.evtError s.hist.toNat = c0.toNat ∧
    tableConf1 s.conf0.toNat c0.toNat s.conf1.toNat = c1.toNat ∧
    tableHist s.conf0.toNat c0.toNat s.hist.toNat = h.toNat ∧
    tableOut0 s.conf0.toNat s.evtClick s.evtLong s.evtError s.hist.toNat = o := by
  obtain ⟨hOn, hOff⟩ := hh
  cases m with
  | enterOn h0 hc hh =>
    have hh' : s.hist.toNat ≠ 2 := fun h => hh (BitVec.eq_of_toNat_eq h)
    simp [tableConf0, tableConf1, tableHist, tableOut0, h0, hc, hh']
  | waitOn h0 hl he hc => simp [tableConf0, tableConf1, tableHist, tableOut0, h0, hl, he, hc, hOn h0]
  | waitOff h0 hl he hc => simp [tableConf0, tableConf1, tableHist, tableOut0, h0, hl, he, hc, hOff h0]
  | _ => simp [tableConf0, tableConf1, tableHist, tableOut0, *]

/-- The move of slot 1 is a row of the table of R120. -/
theorem SlotOneMove.table_row {a c : BitVec 2} {b : Bool} {o : List ActuatorCall} (m : SlotOneMove a b c o) :
    tableConf1After a.toNat b = c.toNat ∧ tableOut1 a.toNat b = o := by
  cases m <;> exact ⟨rfl, rfl⟩

/-- Settles O45: the moves of the two slots are rows of the two tables. -/
theorem stepFollowsTheTransitionTable : Obligations.StepFollowsTheTransitionTable := by
  rintro s k' c1 hr hh rfl rfl
  obtain ⟨_, _, _, _, _, _, m, m', e⟩ := exec_step_moves hr
  obtain ⟨h0, h1, hhist, hout⟩ := m.table_row hh
  obtain ⟨h1', hout'⟩ := m'.table_row
  rw [e, h0, h1, hhist, hout, h1', hout']
  simp only [BitVec.ofNat_toNat, BitVec.setWidth_eq]

/-! ## What STEP reads (R94) -/

/-- Two flags that read the same are the same. -/
theorem boolToNat_inj {a b : Bool} : a.toNat = b.toNat ↔ a = b :=
  (Function.LeftInverse.injective Bool.ofNat_toNat).eq_iff

/-- Settles O48: the registers decide the moves of both slots, and the moves the next state. -/
theorem stepReadsSevenRegisters : Obligations.StepReadsSevenRegisters := by
  intro s u hs hu hregs
  simp only [List.forall_mem_cons, List.not_mem_nil, false_imp_iff, implies_true, and_true, Reg.read, BitVec.toNat_inj,
    boolToNat_inj] at hregs
  obtain ⟨h0, h1, hh, he, hc, hl, hb⟩ := hregs
  obtain ⟨_, _, _, _, _, _, m, m', e⟩ := exec_step_moves hs
  refine ⟨_, _, e, exec_step_of_moves hu (m.congr h0 h1 hh he hc hl) (hb ▸ m'), rfl, ?_⟩
  simp [Reg.read, hb]

end Sys2Proof.Machine
end

section
/-!
PROOFS of the exception statements (60_exceptions.md R121, R133, R139). No operation traps and none is privileged: in a ready
state the checks of `operate` pass, so the operation takes its effect, and that effect leaves the block ready again and
keeps the invariant.
-/

namespace Sys2Proof.Machine

/-- With the invariant, no mark is all an operation asks for: the configuration and the codes are legal (R34, R44, R141). -/
theorem BlockInv.ready {s : State} (h : BlockInv s) (hm : s.marked = false) : Ready s := by
  obtain ⟨hl, hc, -⟩ := h
  exact ⟨hm, hl, hc⟩

/-- An operation that completes in a ready state keeps the whole invariant (R35 to R37). -/
theorem blockInv_of_exec {i : Instr} {s t : State} (hr : Ready s) (hs : BlockInv s) (h : exec i s = .next t) :
    BlockInv t := by
  cases (exec_of_ready i hr).symm.trans h
  exact effectOf_blockInv i (s := startOutput s) hs

/-- Settles O11: in a ready state every operation takes its effect. -/
theorem everyOperationCompletes : Obligations.EveryOperationCompletes :=
  fun _ i hr => ⟨_, exec_of_ready i hr⟩

/-- Settles O58: the operation completes because the state is ready, and what it leaves is ready and has the invariant. -/
theorem normalStatesStayNormal : Obligations.NormalStatesStayNormal := by
  intro s i hs hm
  have hr : Ready s := BlockInv.ready hs hm
  obtain ⟨t, ht⟩ := everyOperationCompletes s i hr
  have ⟨hmarked, _⟩ := ready_of_exec hr ht
  exact ⟨t, ht, blockInv_of_exec hr hs ht, hmarked⟩

end Sys2Proof.Machine
end

section
/-!
PROOFS of the reset statements (70_reset_and_hazards.md R144): RESET leaves one state per configuration, and until the first
Running, which is Headlights On, every step leaves the block outside Running with `hist` Unset.
-/

namespace Sys2Proof.Machine

/-- Running has not been entered since RESET (R144): the block is outside Running and `hist` is Unset. -/
abbrev BeforeFirstRunning (s : State) : Prop := ¬Running s ∧ s.hist = 0

/-- Right after RESET Running has not been entered, whatever the configuration (R41). -/
theorem beforeFirstRunning_resetWith (c : Cfg) : BeforeFirstRunning (State.resetWith c) :=
  ⟨not_running_of_idle_or_error (.inl rfl), rfl⟩

/-- Before the first Running slot 0 leads to Idle, with `hist` still Unset, or to Headlights On (R97, R103, R109). -/
theorem SlotZeroMove.beforeFirstRunning {s : State} {c0 : BitVec 3} {c1 h : BitVec 2} {o : List ActuatorCall}
    (m : SlotZeroMove s c0 c1 h o) (hs : BeforeFirstRunning s) : (c0 = 1 ∧ h = 0) ∨ c0 = 2 := by
  obtain ⟨hrun, hh⟩ := hs
  cases m with
  | enterOff _ _ hoff => simp [hh] at hoff
  | enterOn => exact .inr rfl
  | waitIdle | recover => exact .inl ⟨rfl, hh⟩
  | stopOn h0 | errorOn h0 | toggleOff h0 | waitOn h0 => exact absurd (.inl h0) hrun
  | stopOff h0 | errorOff h0 | toggleOn h0 | waitOff h0 => exact absurd (.inr h0) hrun

/-- Before the first Running no operation's effect enters Running but in Headlights On: only STEP writes `conf0` and `hist`. -/
theorem effectOf_beforeFirstRunning (i : Instr) {s : State} (hc : s.codesLegal = true) (hs : BeforeFirstRunning s) :
    BeforeFirstRunning (effectOf i s) ∨ (effectOf i s).conf0 = 2 := by
  obtain rfl | hi := eq_or_ne i .step
  · obtain ⟨h1, h4, -, -⟩ := (codesLegal_iff s).mp hc
    obtain ⟨c0, c1, h, o, c1', o', m, -, e⟩ := stepEffect_move s h1 h4
    rw [effectOf, e]
    exact (m.beforeFirstRunning hs).imp_left fun ⟨h0, hh⟩ => ⟨not_running_of_idle_or_error (.inl h0), hh⟩
  · obtain ⟨h0, -, hh⟩ := effectOf_regions s hi
    exact .inl (by rwa [BeforeFirstRunning, Running, h0, hh])

/-- However an input is taken before the first Running, Running is entered in Headlights On or not at all. -/
theorem Took.beforeFirstRunning {s t : State} {op : Input} (h : Took s op t) (hs : BeforeFirstRunning s) :
    BeforeFirstRunning t ∨ t.conf0 = 2 := by
  cases h with
  | reset => exact .inl (beforeFirstRunning_resetWith s.cfg)
  | performed _ i hr =>
    obtain ⟨-, -, hc⟩ := hr
    exact effectOf_beforeFirstRunning i (s := startOutput s) hc hs
  | _ => exact .inl hs

/-- Settles O15: RESET leaves a state that the configuration and the waiting inputs decide; a step makes one of the moves
above; a click enters by the history, which is Unset. -/
theorem nothingSurvivesReset : Obligations.NothingSurvivesReset := by
  refine ⟨fun s u rest hs hu hcfg hl => ?reset, fun s t hrun hh h => ?step, fun s hr h0 hh hc => ?click⟩
  case reset =>
    have hu' := step_reset_of_legal hu (hcfg ▸ hl)
    exact ⟨_, step_reset_of_legal hs hl, hcfg ▸ hu', beforeFirstRunning_resetWith s.cfg⟩
  case step =>
    rcases step_cases h with ⟨-, rfl⟩ | ⟨_, _, -, htook⟩
    · exact .inl ⟨hrun, hh⟩
    · exact htook.beforeFirstRunning ⟨hrun, hh⟩
  case click =>
    exact ⟨_, clickEntersRunning s hr h0 hc, by simp [hh], by simp [hh]⟩

end Sys2Proof.Machine
end
